-- ==== Sys2Proof/Word.lean ====
section
/-! DEFINITION. Word.lean: the plain data types of the TW412 (spec/00_scope.md, section 5). -/

namespace Sys2Proof

/-- A byte is 8 bits (00_scope 5.1). -/
abbrev Byte := BitVec 8

/-- A word is 8 bytes, the unit of the check code (00_scope 5.1). -/
abbrev Word := BitVec 64

/-- A line address, 0 to 134,217,727 (00_scope 5.2). -/
abbrev LineAddr := BitVec 27

/-- The line within a rank: a rank holds at most 33,554,432 lines (R65, Table 4-6). -/
abbrev RankLine := BitVec 25

/-- A byte mask: bit p set when byte p of the line is in the mask (00_scope 5.3, Table 11-3). -/
abbrev ByteMask := BitVec 32

/-- The 32 bytes of a line: byte p in bits 8p+7 to 8p (Table 11-3, Table 11-4). -/
abbrev LineData := BitVec 256

/-- A set of word numbers 0 to 3 of a line: bit w set when word w is in it (R36, R110). -/
abbrev WordSet := BitVec 4

/-- The number of a requester, 0 to 3 (00_scope 5.4). -/
abbrev Source := Fin 4

/-- The number of a rank position, 0 to 3 (R78). -/
abbrev Rank := Fin 4

/-- A tag, 0 to 15 (00_scope 5.4). -/
abbrev Tag := BitVec 4

/-- A moment of device time, in units of 0.1 µs: the finest step of Table 9-1 (log entry 3). -/
abbrev Time := Nat

end Sys2Proof
end

