-- ==== Sys2Proof/Syntax.lean ====
section
/-! DEFINITION. Syntax.lean: the commands of the TW412, one constructor for each row of spec/opcode_table.json, with
the operands that the rules of each row give it. -/

namespace Sys2Proof

/-- The fields of a request message beside its kind code (Table 11-3). Every request message carries all of them; R159
says which of them each kind takes. -/
structure Request where
  source : Source
  tag    : Tag
  line   : LineAddr
  mask   : ByteMask
  data   : LineData
  deriving DecidableEq, Repr

/-- The levels of the strap pins, sampled in the event of every reset (R157, Table 11-2). The high pin of a pair is bit 1. -/
structure Straps where
  ranks : BitVec 2
  size  : BitVec 2
  maddr : BitVec 2
  deriving DecidableEq, Repr

/-- What the pins show when the supply becomes valid (R148, R157). -/
structure PowerOnPins where
  straps        : Straps
  rstAsserted   : Bool
  pwarnAsserted : Bool
  deriving DecidableEq, Repr

/-- A stored bit of a word: one of its 64 data bits, or a bit of its check code, named by number (R91; log entry 4). -/
inductive StoredBit where
  | data (i : Fin 64)
  | code (i : Nat)
  deriving DecidableEq, Repr

/-- The direction bit that follows the address of an I2C transfer (R161). -/
inductive Direction where
  | write
  | read
  deriving DecidableEq, Repr

/-- The commands and events that reach the TW412: one constructor per row of spec/opcode_table.json.
A `lo` operand is the low byte whose acknowledgement completes a register write (R162). -/
inductive Instr where
  /-- WRITE (R9): a request message with kind code 0. -/
  | write (m : Request)
  /-- UNKNOWN_KIND_REQUEST (R8): a request message whose kind code is 3 to 7. -/
  | unknownKindRequest (kind : BitVec 3) (m : Request)
  /-- READ (R28): a request message with kind code 1. -/
  | read (m : Request)
  /-- FENCE (R46): a request message with kind code 2. -/
  | fence (m : Request)
  /-- GRANT (R60). -/
  | grant
  /-- DEPARTURE (R18): completion of the head's PLAIN WRITE or MERGE WRITE. -/
  | departure
  /-- LINE_READ_COMPLETION (R34). -/
  | lineReadCompletion
  /-- REFRESH_COMPLETION (R83). -/
  | refreshCompletion
  /-- SCRUB_COMPLETION (R104). -/
  | scrubCompletion
  /-- FILL_COMPLETION (R153). -/
  | fillCompletion
  /-- POWER_UP_COMPLETION (R73). -/
  | powerUpCompletion
  /-- SELF_REFRESH_ENTRY_COMPLETION (R129). -/
  | selfRefreshEntryCompletion
  /-- SELF_REFRESH_EXIT_COMPLETION (R75). -/
  | selfRefreshExitCompletion
  /-- AGE_TIMER_EXPIRY (R6) of the queue entry at place `i`, the head being place 0. -/
  | ageTimerExpiry (i : Fin 16)
  /-- REFRESH_TICK (R80) of rank `n`. -/
  | refreshTick (n : Rank)
  /-- SCRUB_TIMER_EXPIRY (R102). -/
  | scrubTimerExpiry
  /-- HOLDUP_EXPIRY (R127). -/
  | holdupExpiry
  /-- PWARN_N_ASSERTED (R122). -/
  | pwarnAsserted
  /-- PWARN_N_DEASSERTED (R122). -/
  | pwarnDeasserted
  /-- QUIET_POINT_APPLICATION (R143). -/
  | quietPointApplication
  /-- POWER_ON_RESET (R148), with what the pins show at it. -/
  | powerOnReset (p : PowerOnPins)
  /-- EXTERNAL_RESET (R148): an assertion of RST_N, with the straps sampled at it. -/
  | externalReset (st : Straps)
  /-- RST_N_DEASSERTED (R148). -/
  | rstDeasserted
  /-- FLUSH (R54): the low byte, code 0x1, of a write of the command register. -/
  | flush (lo : Byte)
  /-- POP_LOG (R116): the low byte, code 0x2, of a write of the command register. -/
  | popLog (lo : Byte)
  /-- CLEAR_OVERFLOW (R117): the low byte, code 0x3, of a write of the command register. -/
  | clearOverflow (lo : Byte)
  /-- CLEAR_CORRECTED (R99): the low byte, code 0x4, of a write of the command register. The rank argument lies in the
  high byte (Table 11-8), which the port holds. -/
  | clearCorrected (lo : Byte)
  /-- COMMIT (R139): the low byte, code 0x5, of a write of the command register. -/
  | commit (lo : Byte)
  /-- ABORT_COMMIT (R145): the low byte, code 0x6, of a write of the command register. -/
  | abortCommit (lo : Byte)
  /-- RESET (R149): the low byte, code 0x7, of a write of the command register, with the straps sampled at it. -/
  | reset (lo : Byte) (st : Straps)
  /-- UNKNOWN_COMMAND (R164): the low byte, code 0x0 or 0x8 to 0xF, of a write of the command register. -/
  | unknownCommand (lo : Byte)
  /-- FAULT_ENABLE_WRITE (R114): the low byte of a write of the fault enable register. -/
  | faultEnableWrite (lo : Byte)
  /-- STAGED_REGISTER_WRITE (R138): the low byte of a write of the staged register at the pointer. -/
  | stagedRegisterWrite (lo : Byte)
  /-- HEAD_RECORD_READ (R118, R163): the port sends the next byte of a read transfer. The event in which it begins to
  send the high byte of the first head record register takes the snapshot. -/
  | headRecordRead
  /-- REGISTER_POINTER_WRITE (R161): the first byte after the address of a write transfer. -/
  | registerPointerWrite (b : Byte)
  /-- READ_ONLY_REGISTER_WRITE (R162): a byte of a write transfer to a register that is read-only now, or absent. -/
  | readOnlyRegisterWrite (b : Byte)
  /-- STORED_BIT_FLIP (R91) of one stored bit of word `w` of line `l` of rank `r`. -/
  | storedBitFlip (r : Rank) (l : RankLine) (w : Fin 4) (b : StoredBit)
  /-- START_CONDITION (R161): a START or repeated START, with the address and direction that follow it. -/
  | startCondition (address : BitVec 7) (dir : Direction)
  /-- STOP_CONDITION (R161). -/
  | stopCondition
  /-- REGISTER_WRITE_HIGH_BYTE (R162): the high byte of a write to a writable register. -/
  | registerWriteHighByte (hi : Byte)
  deriving DecidableEq, Repr

end Sys2Proof
end

