-- ==== Sys2Proof/Decode.lean ====
section
/-! DEFINITION. Decode.lean: the command that a word spells by the bits of spec/opcode_table.json. -/

namespace Sys2Proof

/-- No row of spec/opcode_table.json gives bits (every row's "fields" is empty and none has "fixed"): the TW412 takes
request messages, line levels and I2C bytes, not instruction words. So no word spells a command. -/
def decodeTableWord (_nbits _w : Nat) : Option Instr := none

end Sys2Proof
end

