-- ==== Sys2Proof/Machine/Codes.lean ====
section
/-! DEFINITION. Machine/Codes.lean: which codes name a command or a request (Tables 11-3, 11-7 and 11-8). -/

namespace Sys2Proof.Machine

/-- The command code in the low byte of the command register: bits 3:0 (Table 11-8). -/
def commandCode (lo : Byte) : BitVec 4 := lo.setWidth 4

/-- The command codes that name no command: 0x0 and 0x8 to 0xF (Table 11-7). -/
def namesNoCommand (code : BitVec 4) : Bool := code == 0 || code.getLsbD 3

/-- The kind codes that name none of WRITE, READ and FENCE: 3 to 7 (Table 11-3). -/
def namesNoRequest (kind : BitVec 3) : Bool := decide (3 ≤ kind.toNat)

end Sys2Proof.Machine
end

