-- ==== Sys2Proof/Machine/Blocks.lean ====
section
/-! DEFINITION. Machine/Blocks.lean: the data types of the state that each block of Table 0-1 owns. -/

namespace Sys2Proof.Machine

/-- A timer of the device: stopped, or running with the time of its next expiry (R78, R101, R124; log entry 3). -/
inductive Timer where
  | stopped
  | running (expiry : Time)
  deriving DecidableEq, Repr

/-! ## Posting Queue -/

/-- The state of a queue entry (Table 1-2). -/
inductive EntryState where
  | queued
  | writing
  deriving DecidableEq, Repr

/-- A posting queue entry (Table 1-1). `data` holds 0 at the positions outside `mask`: an entry holds no byte there (R2). -/
structure Entry where
  line    : LineAddr
  source  : Source
  mask    : ByteMask
  data    : LineData
  state   : EntryState
  isOpen  : Bool
  ripe    : Bool
  fenced  : Bool
  flushed : Bool
  faulted : Bool
  timer   : Timer
  deriving DecidableEq, Repr

/-! ## Read Table -/

/-- The state of a read record (Table 2-2). -/
inductive ReadState where
  | waiting
  | reading
  deriving DecidableEq, Repr

/-- A read record (Table 2-1). -/
structure ReadRecord where
  source : Source
  tag    : Tag
  line   : LineAddr
  state  : ReadState
  deriving DecidableEq, Repr

/-! ## Fence Table -/

/-- The one outstanding fence of a PENDING row (Table 3-1). -/
structure PendingFence where
  tag       : Tag
  remaining : Nat
  faulted   : Bool
  discarded : Bool
  deriving DecidableEq, Repr

/-- A fence row (R44). A FREE row holds no fence: remaining 0, no marks, and no tag (log entry 14). -/
inductive FenceRow where
  | free
  | pending (f : PendingFence)
  deriving DecidableEq, Repr

/-- The flush state (Table 3-4). -/
structure Flush where
  active    : Bool
  remaining : Nat
  complete  : Bool
  deriving DecidableEq, Repr

/-- The fence rows, one for each source, and the flush state (R44, R53). -/
structure FenceTable where
  rows  : Vector FenceRow 4
  flush : Flush
  deriving DecidableEq, Repr

/-! ## Array Sequencer -/

/-- The array cycle in flight (Table 4-1), with the rank and rank line of the kinds that have them. The subject is the
WRITING head for a drain and the READING record for a LINE READ, which the PQ and the RT hold. -/
inductive Cycle where
  | lineRead (rank : Rank) (line : RankLine)
  | plainWrite (rank : Rank) (line : RankLine)
  | mergeWrite (rank : Rank) (line : RankLine)
  | refresh (rank : Rank)
  | scrub (rank : Rank) (line : RankLine)
  | fill (rank : Rank) (line : RankLine)
  | powerUp
  | selfRefreshEntry
  | selfRefreshExit
  deriving DecidableEq, Repr

/-- The blocks that claim the array port (Table 4-1). -/
inductive Claimant where
  | pq
  | rt
  | rfs
  | scr
  | mdc
  deriving DecidableEq, Repr

/-- The array condition (Table 4-2). -/
inductive ArrayCondition where
  | cold
  | active
  | selfRefresh
  deriving DecidableEq, Repr

/-- The sequencer: the cycle in flight, or idle, and the array condition (R58, R59). -/
structure Sequencer where
  cycle     : Option Cycle
  condition : ArrayCondition
  deriving DecidableEq, Repr

/-- The claims that may stand at a grant (Table 4-3). -/
inductive Claim where
  | powerUp
  | selfRefreshEntry
  | selfRefreshExit
  | refresh (rank : Rank)
  | drain
  | read
  | fill
  | scrub
  deriving DecidableEq, Repr

/-- The drain condition (R14). -/
inductive DrainCondition where
  | pressing
  | due
  | waiting
  deriving DecidableEq, Repr

/-! ## Refresh Scheduler and Patrol Scrubber -/

/-- The refresh state of a rank (Table 5-1). -/
structure RankRefresh where
  debt  : Nat
  timer : Timer
  deriving DecidableEq, Repr

/-- The patrol scrubber state (Table 6-5). -/
structure Scrubber where
  rank      : Rank
  line      : RankLine
  passCount : BitVec 16
  timer     : Timer
  due       : Bool
  deriving DecidableEq, Repr

/-! ## Check Unit -/

/-- The form of a stored check code (R91). -/
inductive CodeForm where
  | fresh
  | poison
  deriving DecidableEq, Repr

/-- A stored word (R91): its data bits as they stand and as last written, the form of code last written, and the bits
of the code flipped since, rising and without repeats (log entry 4). -/
structure StoredWord where
  stored    : Word
  written   : Word
  code      : CodeForm
  codeFlips : List Nat
  deriving DecidableEq, Repr

/-- The outcome of a word read (Table 6-1). -/
inductive WordOutcome where
  | clean
  | corrected
  | uncorrectable
  | poisoned
  deriving DecidableEq, Repr

/-- Relative to a byte mask, how much of a word is in it (00_scope 5.3). -/
inductive Coverage where
  | full
  | part
  | none
  deriving DecidableEq, Repr

/-- The words of the ranks that have been written since power was applied, by cell address, in strictly rising order
(log entry 9). -/
abbrev Memory := List (Nat × StoredWord)

/-! ## Fault Log -/

/-- The six record kinds (Table 7-2). -/
inductive RecordKind where
  | correctedLimit
  | readUncorrectable
  | mergeUncorrectable
  | scrubUncorrectable
  | refreshOverrun
  | holdupDiscard
  deriving DecidableEq, Repr

/-- A fault event, with the fields that Table 7-2 gives its kind. -/
inductive FaultEvent where
  | correctedLimit (rank : Rank) (count : BitVec 16)
  | readUncorrectable (rank : Rank) (line : LineAddr) (source : Source) (words : WordSet)
  | mergeUncorrectable (rank : Rank) (line : LineAddr) (source : Source) (words : WordSet)
  | scrubUncorrectable (rank : Rank) (line : LineAddr) (words : WordSet)
  | refreshOverrun (rank : Rank)
  | holdupDiscard (count : Nat)
  deriving DecidableEq, Repr

/-- A fault record: a fault event with its number (R110). -/
structure FaultRecord where
  number : BitVec 8
  event  : FaultEvent
  deriving DecidableEq, Repr

/-- The fault log (Table 7-1) and the FAULT_N line it drives (R115); `line` is true while FAULT_N is asserted. -/
structure FaultLog where
  records  : List FaultRecord
  next     : BitVec 8
  overflow : Bool
  mask     : BitVec 6
  line     : Bool
  deriving DecidableEq, Repr

/-! ## Mode Controller -/

/-- The device mode (Table 0-3). -/
inductive Mode where
  | init
  | fill
  | run
  | holdup
  | retain
  | resume
  deriving DecidableEq, Repr

/-- The cause field of the reset record (Table 10-2). -/
inductive ResetCause where
  | powerOn
  | external
  | maintenance
  deriving DecidableEq, Repr

/-- The reset record (Table 10-2). `modeAtReset` is `none` for NONE. -/
structure ResetRecord where
  cause        : ResetCause
  modeAtReset  : Option Mode
  discarded    : Nat
  writeCut     : Bool
  fillComplete : Bool
  deriving DecidableEq, Repr

/-- The mode controller: the mode, the hold-up timer, the reset record and the fill pointer (Table 0-1). -/
structure ModeController where
  mode        : Mode
  holdupTimer : Timer
  record      : ResetRecord
  fillRank    : Rank
  fillLine    : RankLine
  deriving DecidableEq, Repr

/-! ## Configuration Store -/

/-- The four rank sizes (Table 4-6). -/
inductive RankSize where
  | mib128
  | mib256
  | mib512
  | mib1024
  deriving DecidableEq, Repr

/-- The three fields of a rank in a configuration set (Table 9-1). -/
structure RankSettings where
  enable : Bool
  size   : RankSize
  base   : BitVec 28
  deriving DecidableEq, Repr

/-- A configuration set (Table 9-1). The refresh interval is in 0.1 µs, the age limit and the scrub interval in µs, the
hold-up time in 10 µs. -/
structure Settings where
  ranks              : Vector RankSettings 4
  refreshInterval    : BitVec 8
  urgentLevel        : BitVec 4
  highMark           : BitVec 5
  drainThreshold     : BitVec 5
  ageLimit           : BitVec 8
  scrubEnable        : Bool
  scrubInterval      : BitVec 16
  correctedThreshold : BitVec 16
  holdupTime         : BitVec 8
  deriving DecidableEq, Repr

/-- The reasons of a rejected COMMIT (Table 9-3 and R139). -/
inductive CommitReason where
  | align
  | space
  | overlap
  | noRank
  | marks
  | refresh
  | urgent
  | holdup
  | scrub
  | notRunning
  deriving DecidableEq, Repr

/-- The commit outcome (Table 9-4). -/
inductive CommitOutcome where
  | none
  | rejected (reason : CommitReason)
  | accepted
  | applied
  | aborted
  | cancelled
  deriving DecidableEq, Repr

/-- The configuration store (R135, R141); `pending` is the commit state PENDING. -/
structure ConfigStore where
  active  : Settings
  staged  : Settings
  pending : Bool
  outcome : CommitOutcome
  deriving DecidableEq, Repr

/-! ## Maintenance Port -/

/-- The transfer state of the maintenance port (R161), with the held byte of a register write and the low byte of a
register value whose high byte has been sent (R163). `writeIgnored`: a byte of this write transfer was NACKed, and every
further one is (R162; log entry 10). -/
inductive Transfer where
  | idle
  | writePointer
  | writeHigh
  | writeLow (held : Byte)
  | writeIgnored
  | readHigh
  | readLow (low : Byte)
  deriving DecidableEq, Repr

/-- The snapshot buffer of the head record (R118): an absent field is 0. -/
structure HeadSnapshot where
  present : Bool
  number  : BitVec 8
  kind    : BitVec 3
  rank    : BitVec 2
  line    : LineAddr
  source  : BitVec 2
  words   : WordSet
  count   : BitVec 16
  deriving DecidableEq, Repr

/-- The result codes (below Table 11-7). -/
inductive ResultCode where
  | none
  | done
  | empty
  | busy
  | accepted
  | rejected (reason : CommitReason)
  | notPending
  | unknown
  deriving DecidableEq, Repr

/-- The result register: the result, with its reason, and the code of the command answered (Table 11-8, 0x09). -/
structure CommandResult where
  result  : ResultCode
  command : BitVec 4
  deriving DecidableEq, Repr

/-- What the maintenance port puts on SDA for one byte: an acknowledgement, its refusal, or a byte of a read. -/
inductive SdaSignal where
  | ack
  | nack
  | byte (b : Byte)
  deriving DecidableEq, Repr

/-- The maintenance port (R161, R164), with the address sampled at the last reset (R157). -/
structure MaintPort where
  address  : BitVec 7
  pointer  : BitVec 8
  transfer : Transfer
  result   : CommandResult
  snapshot : HeadSnapshot
  deriving DecidableEq, Repr

/-- The fields of the staged registers, by register (Table 11-8). -/
inductive StagedRegister where
  | rankControl (n : Rank)
  | rankBaseHigh (n : Rank)
  | rankBaseLow (n : Rank)
  | refresh
  | marks
  | ageLimit
  | scrub
  | scrubInterval
  | correctedThreshold
  | holdupTime
  deriving DecidableEq, Repr

/-! ## Request Interface and pins -/

/-- The reasons of a RETRY (Table 11-5). -/
inductive RetryReason where
  | full
  | tableFull
  | filling
  | resuming
  | committing
  deriving DecidableEq, Repr

/-- The reasons of a REFUSE (Table 11-5). -/
inductive RefuseReason where
  | unmapped
  | malformed
  | halted
  | tagInUse
  | fenceBusy
  deriving DecidableEq, Repr

/-- The status of an FDONE (Table 11-5). -/
inductive FenceStatus where
  | clean
  | faulted
  | discarded
  deriving DecidableEq, Repr

/-- What a response says (Table 0-6). -/
inductive Answer where
  | wack
  | rdata (data : LineData) (poison : WordSet)
  | fdone (status : FenceStatus)
  | retry (reason : RetryReason)
  | refuse (reason : RefuseReason)
  deriving DecidableEq, Repr

/-- A response: the request's kind code, source and tag, echoed, and the answer (R160). -/
structure Response where
  kind   : BitVec 3
  source : Source
  tag    : Tag
  answer : Answer
  deriving DecidableEq, Repr

/-- The single lines: the levels of PWARN_N and RST_N (true while asserted) and PORT_READY (true while high). -/
structure Pins where
  pwarn     : Bool
  rst       : Bool
  portReady : Bool
  deriving DecidableEq, Repr

end Sys2Proof.Machine
end

