-- ==== Sys2Proof/Machine/ResetValues.lean ====
section
/-! DEFINITION. Machine/ResetValues.lean: the strap settings and the values that each block takes at a reset. -/

namespace Sys2Proof.Machine

/-- The size of a rank in lines (Table 4-6). -/
def RankSize.lines : RankSize → Nat
  | .mib128 => 4194304
  | .mib256 => 8388608
  | .mib512 => 16777216
  | .mib1024 => 33554432

/-- The rank size that a 2-bit code names, in the SIZE strap (Table 11-2) and in the registers (R165). -/
def rankSizeOfCode (c : BitVec 2) : RankSize :=
  match c.toNat with
  | 0 => .mib128
  | 1 => .mib256
  | 2 => .mib512
  | _ => .mib1024

/-- The strap-derived set (R137 and the last column of Table 9-1). -/
def strapDerived (st : Straps) : Settings where
  ranks := Vector.ofFn fun n =>
    { enable := decide (n.val ≤ st.ranks.toNat)
      size := rankSizeOfCode st.size
      base := BitVec.ofNat 28 (n.val * (rankSizeOfCode st.size).lines) }
  refreshInterval := 78
  urgentLevel := 6
  highMark := 12
  drainThreshold := 4
  ageLimit := 20
  scrubEnable := false
  scrubInterval := 1000
  correctedThreshold := 16
  holdupTime := 50

/-- The 7-bit maintenance address: 0x5C plus the MADDR strap (R157). -/
def strapAddress (st : Straps) : BitVec 7 := 0x5C + st.maddr.setWidth 7

/-- The fence table after each reset (Table 3-6). -/
def fenceTableAtReset : FenceTable where
  rows := Vector.replicate 4 .free
  flush := { active := false, remaining := 0, complete := false }

/-- The refresh scheduler after each reset (Table 5-7). -/
def refreshAtReset : Vector RankRefresh 4 := Vector.replicate 4 { debt := 0, timer := .stopped }

/-- The patrol scrubber after each reset (Table 6-9). -/
def scrubberAtReset : Scrubber where
  rank := 0
  line := 0
  passCount := 0
  timer := .stopped
  due := false

/-- The fault log and FAULT_N after each reset (Table 7-5). -/
def faultLogAtReset : FaultLog where
  records := []
  next := 0
  overflow := false
  mask := 0
  line := false

/-- The configuration store after each reset (Table 9-6). -/
def configAtReset (st : Straps) : ConfigStore where
  active := strapDerived st
  staged := strapDerived st
  pending := false
  outcome := .none

/-- The snapshot buffer after each reset (R119, R120): present no, every field 0. -/
def emptySnapshot : HeadSnapshot where
  present := false
  number := 0
  kind := 0
  rank := 0
  line := 0
  source := 0
  words := 0
  count := 0

/-- The maintenance port after each reset (R166, Table 11-9). -/
def maintPortAtReset (st : Straps) : MaintPort where
  address := strapAddress st
  pointer := 0
  transfer := .idle
  result := { result := .none, command := 0 }
  snapshot := emptySnapshot

/-- The mode controller after a reset that leaves the reset record `r` (R134, R148, R153): mode INIT, the hold-up timer
stopped, the fill pointer at rank 0, line 0. -/
def modeControllerAtReset (r : ResetRecord) : ModeController where
  mode := .init
  holdupTimer := .stopped
  record := r
  fillRank := 0
  fillLine := 0

/-- The reset record after a power-on reset (Table 10-2). -/
def powerOnRecord : ResetRecord where
  cause := .powerOn
  modeAtReset := none
  discarded := 0
  writeCut := false
  fillComplete := false

end Sys2Proof.Machine
end

