-- ==== Sys2Proof/Machine/Operands.lean ====
section
/-! DEFINITION. Machine/Operands.lean: the operands of the commands: byte masks and words of a line, the decoding of a
line address to a rank, the commit check of a configuration set, and the arithmetic of times. -/

namespace Sys2Proof.Machine

/-! ## Masks, bytes and words of a line (00_scope 5.1 and 5.3) -/

/-- The bits of a line that the bytes of a mask select. -/
def maskBits (m : ByteMask) : LineData := BitVec.ofFnLE fun i : Fin 256 => m.getLsbD (i.val / 8)

/-- The bytes of `new` at the positions of the mask, the bytes of `old` elsewhere. -/
def mergeBytes (m : ByteMask) (new old : LineData) : LineData := (new &&& maskBits m) ||| (old &&& ~~~maskBits m)

/-- The data bytes of a WRITE at the positions in its mask; the others are not taken (R2, R159). -/
def maskedData (m : Request) : LineData := m.data &&& maskBits m.mask

/-- The part of a byte mask that lies in word `w`: bytes 8w to 8w+7. -/
def wordMask (m : ByteMask) (w : Fin 4) : BitVec 8 := m.extractLsb' (8 * w.val) 8

/-- Word `w` of a line. -/
def lineWord (d : LineData) (w : Fin 4) : Word := d.extractLsb' (64 * w.val) 64

/-- The line made of four words. -/
def lineOfWords (f : Fin 4 → Word) : LineData := f 3 ++ f 2 ++ f 1 ++ f 0

/-- The coverage of word `w` by a byte mask (00_scope 5.3). -/
def coverage (m : ByteMask) (w : Fin 4) : Coverage :=
  if wordMask m w = 0xFF then .full else if wordMask m w = 0 then .none else .part

/-- Whether a mask covers some word only in part: such a head is drained by a MERGE WRITE (Table 1-6). -/
def hasPartialWord (m : ByteMask) : Bool :=
  coverage m 0 == .part || coverage m 1 == .part || coverage m 2 == .part || coverage m 3 == .part

/-- The set of the words for which `p` holds. -/
def wordSet (p : Fin 4 → Bool) : WordSet := BitVec.ofFnLE p

/-! ## The posting queue as a read sees it (R23) -/

/-- The byte positions of `line` that the entries of the queue hold together (R28 step 3, R30). -/
def queueCover (q : List Entry) (line : LineAddr) : ByteMask :=
  q.foldl (fun m e => if e.line = line then m ||| e.mask else m) 0

/-- A line's bytes as a read returns them: at each position the byte of the youngest entry for the line that holds it,
elsewhere the byte of `base` (R30, R35). The queue is in order, oldest first, so a younger entry overlays an older. -/
def queueMerge (q : List Entry) (line : LineAddr) (base : LineData) : LineData :=
  q.foldl (fun d e => if e.line = line then mergeBytes e.mask e.data d else d) base

/-! ## Rank windows (R65) -/

/-- Whether a line lies in the window of a rank (R65). -/
def RankSettings.holds (r : RankSettings) (line : LineAddr) : Bool :=
  r.enable && decide (r.base.toNat ≤ line.toNat) && decide (line.toNat < r.base.toNat + r.size.lines)

/-- The rank that a line decodes to under a set, if any (R65). -/
def Settings.rankOf (c : Settings) (line : LineAddr) : Option Rank :=
  if c.ranks[0].holds line then some 0
  else if c.ranks[1].holds line then some 1
  else if c.ranks[2].holds line then some 2
  else if c.ranks[3].holds line then some 3
  else none

/-- The rank line of a line that decodes to rank `n`: the line less the base (R65). -/
def Settings.rankLine (c : Settings) (n : Rank) (line : LineAddr) : RankLine :=
  BitVec.ofNat 25 (line.toNat - c.ranks[n].base.toNat)

/-- The line of rank line `l` of rank `n`: the rank line plus the base (R104). -/
def Settings.lineOf (c : Settings) (n : Rank) (l : RankLine) : LineAddr :=
  BitVec.ofNat 27 (c.ranks[n].base.toNat + l.toNat)

/-- Whether a line is mapped: it decodes to some rank (R65). -/
def Settings.mapped (c : Settings) (line : LineAddr) : Bool := (c.rankOf line).isSome

/-- The next enabled rank above rank `n`, in rank number order (R105, R153). -/
def Settings.nextRank (c : Settings) (n : Rank) : Option Rank :=
  [0, 1, 2, 3].find? fun m : Rank => decide (n < m) && c.ranks[m].enable

/-- The lowest-numbered enabled rank (R105, R107, R152); rank 0 where none is, which no legal set has (log entry 15). -/
def Settings.lowestRank (c : Settings) : Rank :=
  ([0, 1, 2, 3].find? fun m : Rank => c.ranks[m].enable).getD 0

/-- Whether rank `n` is unchanged from one set to another: enabled in both, with the same base and size (R144). -/
def rankUnchanged (old new : Settings) (n : Rank) : Bool :=
  old.ranks[n].enable && new.ranks[n].enable && decide (old.ranks[n].base = new.ranks[n].base) &&
    decide (old.ranks[n].size = new.ranks[n].size)

/-! ## The commit check (R140) -/

/-- Test 1 fails for a rank: enabled, with a base that is not a multiple of its size. -/
def RankSettings.misaligned (r : RankSettings) : Bool := r.enable && r.base.toNat % r.size.lines != 0

/-- Test 2 fails for a rank: enabled, with a window that passes the end of the space. -/
def RankSettings.beyondSpace (r : RankSettings) : Bool :=
  r.enable && decide (134217728 < r.base.toNat + r.size.lines)

/-- Test 3 fails for two ranks: both enabled, with a line in common. -/
def RankSettings.overlaps (r t : RankSettings) : Bool :=
  r.enable && t.enable && decide (r.base.toNat < t.base.toNat + t.size.lines) &&
    decide (t.base.toNat < r.base.toNat + r.size.lines)

/-- Whether two ranks of a set overlap. -/
def Settings.someOverlap (c : Settings) : Bool :=
  c.ranks[0].overlaps c.ranks[1] || c.ranks[0].overlaps c.ranks[2] || c.ranks[0].overlaps c.ranks[3] ||
    c.ranks[1].overlaps c.ranks[2] || c.ranks[1].overlaps c.ranks[3] || c.ranks[2].overlaps c.ranks[3]

/-- Whether `p` holds of some rank of a set. -/
def Settings.someRank (c : Settings) (p : RankSettings → Bool) : Bool :=
  p c.ranks[0] || p c.ranks[1] || p c.ranks[2] || p c.ranks[3]

/-- The commit check: the reason of the first test of Table 9-3 that fails, or none where the set passes. -/
def commitCheck (c : Settings) : Option CommitReason :=
  if c.someRank RankSettings.misaligned then some .align
  else if c.someRank RankSettings.beyondSpace then some .space
  else if c.someOverlap then some .overlap
  else if !c.someRank RankSettings.enable then some .noRank
  else if c.drainThreshold.toNat < 1 ∨ 16 < c.drainThreshold.toNat ∨ c.highMark.toNat < 2 ∨ 16 < c.highMark.toNat ∨
      c.highMark.toNat < c.drainThreshold.toNat then some .marks
  else if c.refreshInterval.toNat < 10 ∨ 156 < c.refreshInterval.toNat then some .refresh
  else if c.urgentLevel.toNat < 2 ∨ 8 < c.urgentLevel.toNat then some .urgent
  else if c.holdupTime = 0 then some .holdup
  else if c.scrubInterval = 0 ∨ c.correctedThreshold = 0 then some .scrub
  else none

/-! ## Times, in units of 0.1 µs (log entry 3) -/

/-- The refresh interval of a set (field in 0.1 µs). -/
def Settings.refreshTime (c : Settings) : Time := c.refreshInterval.toNat

/-- The age limit of a set (field in µs). -/
def Settings.ageTime (c : Settings) : Time := 10 * c.ageLimit.toNat

/-- The scrub interval of a set (field in µs). -/
def Settings.scrubTime (c : Settings) : Time := 10 * c.scrubInterval.toNat

/-- The hold-up time of a set (field in 10 µs). -/
def Settings.holdTime (c : Settings) : Time := 100 * c.holdupTime.toNat

/-- Whether a timer is running and its expiry has come. -/
def Timer.due (t : Timer) (now : Time) : Bool :=
  match t with
  | .stopped => false
  | .running d => decide (d ≤ now)

/-- The cycle kind's claimant (Table 4-10). -/
def Cycle.claimant : Cycle → Claimant
  | .lineRead _ _ => .rt
  | .plainWrite _ _ => .pq
  | .mergeWrite _ _ => .pq
  | .refresh _ => .rfs
  | .scrub _ _ => .scr
  | .fill _ _ => .mdc
  | .powerUp => .mdc
  | .selfRefreshEntry => .mdc
  | .selfRefreshExit => .mdc

/-- The rank and rank line of a cycle, for the kinds that have both (Table 4-1). -/
def Cycle.target : Cycle → Option (Rank × RankLine)
  | .lineRead r l => some (r, l)
  | .plainWrite r l => some (r, l)
  | .mergeWrite r l => some (r, l)
  | .refresh _ => none
  | .scrub r l => some (r, l)
  | .fill r l => some (r, l)
  | .powerUp => none
  | .selfRefreshEntry => none
  | .selfRefreshExit => none

/-- The rank that a cycle works on, absent for POWER-UP and the two self-refresh kinds (Table 4-1). -/
def Cycle.rank : Cycle → Option Rank
  | .refresh r => some r
  | .lineRead r _ => some r
  | .plainWrite r _ => some r
  | .mergeWrite r _ => some r
  | .scrub r _ => some r
  | .fill r _ => some r
  | .powerUp => none
  | .selfRefreshEntry => none
  | .selfRefreshExit => none

/-- Whether a cycle is a PLAIN WRITE or a MERGE WRITE, the array write of the head. -/
def Cycle.isWrite : Cycle → Bool
  | .plainWrite _ _ => true
  | .mergeWrite _ _ => true
  | .lineRead _ _ => false
  | .refresh _ => false
  | .scrub _ _ => false
  | .fill _ _ => false
  | .powerUp => false
  | .selfRefreshEntry => false
  | .selfRefreshExit => false

end Sys2Proof.Machine
end

