-- ==== Sys2Proof/Machine/State.lean ====
section
/-! DEFINITION. Machine/State.lean: the state of the TW412, block by block as in Table 0-1, its value right after
power-on reset, and the reasons for which a step could stop. -/

namespace Sys2Proof.Machine

/-- The state of the TW412. -/
structure State where
  /-- The commands waiting to be taken, first in, first out (the model's own; log entry 11). -/
  pending  : List Instr
  /-- PQ: the posting queue, oldest first (R1). -/
  pq       : List Entry
  /-- RT: the read table, in arrival order (R25). -/
  rt       : List ReadRecord
  /-- FT: the fence rows and the flush state (R44, R53). -/
  ft       : FenceTable
  /-- SEQ: the cycle in flight and the array condition (R58, R59). -/
  seq      : Sequencer
  /-- RFS: the refresh debt and tick timer of each rank (R78). -/
  rfs      : Vector RankRefresh 4
  /-- CHK: the corrected count of each rank (R97). -/
  chk      : Vector (BitVec 16) 4
  /-- SCR: the patrol scrubber (R101). -/
  scr      : Scrubber
  /-- FLG: the fault log, the enable mask and FAULT_N (R109, R115). -/
  flg      : FaultLog
  /-- MDC: the mode, the hold-up timer, the reset record and the fill pointer (R124, R148, R150, R153). -/
  mdc      : ModeController
  /-- CFG: the active and staged sets, the commit state and outcome (R135, R141). -/
  cfg      : ConfigStore
  /-- MNT: the maintenance port (R161). -/
  mnt      : MaintPort
  /-- The levels of PWARN_N, RST_N and PORT_READY (R122, R148, R158). -/
  pins     : Pins
  /-- The words of the ranks written since power was applied (R91; log entry 9). -/
  array    : Memory
  /-- RQI: the responses sent in the event last taken, in order (R160; log entry 7). -/
  rsp      : List Response
  /-- What the maintenance port put on SDA in the event last taken (R161; log entry 7). -/
  sda      : List SdaSignal
  /-- Device time in 0.1 µs (the model's own; log entry 3). -/
  now      : Time
  /-- The number of power-on resets taken (the model's own; log entry 1). -/
  powerOns : Nat
  /-- The number of cycles cut short by a reset (the model's own; log entry 2). -/
  cuts     : Nat
  deriving DecidableEq, Repr

/-- The faults a step can stop with: NONE. The TW412 stops nowhere; what it detects it records in the fault log (R110). -/
inductive Fault
  deriving DecidableEq, Repr

/-- The refusals a step can stop with. -/
inductive Refusal where
  /-- Raised by an arm of exec whose command has no meaning yet; safe. No arm raises it. -/
  | notModelled (mnemonic : String)
  deriving DecidableEq, Repr

/-- The straps that State.reset has sampled: all low (DESIGN CHOICE, log entry 8). -/
def resetStraps : Straps := { ranks := 0, size := 0, maddr := 0 }

/-- The TW412 right after a power-on reset (R20, R43, R57, R76, R90, R100, R108, R120, R134, R137, R147, R148, R150,
R166), with RST_N and PWARN_N deasserted and the straps low (DESIGN CHOICE, log entry 8). -/
def State.reset : State where
  pending := []
  pq := []
  rt := []
  ft := fenceTableAtReset
  seq := { cycle := none, condition := .cold }
  rfs := refreshAtReset
  chk := Vector.replicate 4 0
  scr := scrubberAtReset
  flg := faultLogAtReset
  mdc := modeControllerAtReset powerOnRecord
  cfg := configAtReset resetStraps
  mnt := maintPortAtReset resetStraps
  pins := { pwarn := false, rst := false, portReady := false }
  array := []
  rsp := []
  sda := []
  now := 0
  powerOns := 0
  cuts := 0

/-- What exec and step answer. -/
abbrev Out := Host.Outcome State Fault Refusal

end Sys2Proof.Machine
end

