-- ==== Sys2Proof/Machine/Flags.lean ====
section
/-! DEFINITION. Machine/Flags.lean: the conditions that the blocks keep and the claims that follow from them, each
computed from the state it depends on (log entry 13): drain condition, held pairs, quiet point, claims, grant order. -/

namespace Sys2Proof.Machine

/-! ## Status of the blocks -/

/-- Whether an entry is WRITING. -/
def Entry.isWriting (e : Entry) : Bool := e.state == .writing

/-- The number of entries in the queue (R1). -/
def State.occupancy (s : State) : Nat := s.pq.length

/-- Whether a fence row is PENDING (R44). -/
def FenceRow.isPending : FenceRow → Bool
  | .free => false
  | .pending _ => true

/-- The number of PENDING fence rows (R44). -/
def State.pendingRows (s : State) : Nat := ([0, 1, 2, 3] : List (Fin 4)).countP fun i => s.ft.rows[i].isPending

/-- Whether every fence row is FREE. -/
def State.rowsFree (s : State) : Bool := s.pendingRows == 0

/-- Whether a row holds a tag (R29). -/
def FenceRow.holdsTag (t : Tag) : FenceRow → Bool
  | .free => false
  | .pending f => f.tag == t

/-- Whether a (source, tag) pair is held, by a read record or by a PENDING fence row (R29). -/
def State.pairHeld (s : State) (src : Source) (t : Tag) : Bool :=
  s.rt.any (fun r => r.source == src && r.tag == t) || s.ft.rows[src].holdsTag t

/-- Whether the SEQ is idle (R58). -/
def State.idle (s : State) : Bool := s.seq.cycle.isNone

/-- The kind of a fault event (Table 7-2). -/
def FaultEvent.kind : FaultEvent → RecordKind
  | .correctedLimit _ _ => .correctedLimit
  | .readUncorrectable _ _ _ _ => .readUncorrectable
  | .mergeUncorrectable _ _ _ _ => .mergeUncorrectable
  | .scrubUncorrectable _ _ _ => .scrubUncorrectable
  | .refreshOverrun _ => .refreshOverrun
  | .holdupDiscard _ => .holdupDiscard

/-- The number of a record kind, which is also its bit in the fault enable register (R165). -/
def RecordKind.code : RecordKind → Nat
  | .correctedLimit => 0
  | .readUncorrectable => 1
  | .mergeUncorrectable => 2
  | .scrubUncorrectable => 3
  | .refreshOverrun => 4
  | .holdupDiscard => 5

/-- Whether a mask of kinds holds the kind of a fault event. -/
def enabledIn (mask : BitVec 6) (e : FaultEvent) : Bool := mask.getLsbD e.kind.code

/-- Whether some record of a list is of a kind in the mask: the condition under which FAULT_N is asserted (R115). -/
def someEnabled (mask : BitVec 6) (rs : List FaultRecord) : Bool := rs.any fun r => enabledIn mask r.event

/-! ## Drain (R14, R15) -/

/-- Whether the head, if any, is ripe. -/
def State.headRipe (s : State) : Bool := s.pq.head?.any fun e => e.ripe

/-- Whether drain is pressing (R14). -/
def State.drainPressing (s : State) : Bool :=
  decide (s.cfg.active.highMark.toNat ≤ s.occupancy) || !s.rowsFree || s.ft.flush.active || s.cfg.pending ||
    s.mdc.mode == .holdup

/-- The drain condition (R14). With an empty queue it has no effect. -/
def State.drainCondition (s : State) : DrainCondition :=
  if s.drainPressing then .pressing
  else if decide (s.cfg.active.drainThreshold.toNat ≤ s.occupancy) || s.headRipe then .due
  else .waiting

/-- The class of the drain claim that stands, if one does: the head is QUEUED and drain is pressing or due (R15). -/
def State.drainClaim (s : State) : Option DrainCondition :=
  match s.pq with
  | [] => none
  | e :: _ =>
    if e.isWriting then none
    else match s.drainCondition with
      | .pressing => some .pressing
      | .due => some .due
      | .waiting => none

/-! ## The other claims -/

/-- The oldest WAITING read record, which the read claim names (R32). -/
def State.oldestWaiting (s : State) : Option ReadRecord := s.rt.find? fun r => r.state == .waiting

/-- Whether rank `n`'s refresh claim stands: its debt is at least 1 and no REFRESH of it is in flight (R82). -/
def State.refreshClaim (s : State) (n : Rank) : Bool :=
  decide (1 ≤ s.rfs[n].debt) && s.seq.cycle != some (.refresh n)

/-- Whether rank `n`'s debt is at the urgent level (R82). -/
def State.urgent (s : State) (n : Rank) : Bool := decide (s.cfg.active.urgentLevel.toNat ≤ s.rfs[n].debt)

/-- Whether the scrub claim stands: the due flag is yes and the mode is RUN (R103). -/
def State.scrubClaim (s : State) : Bool := s.scr.due && s.mdc.mode == .run

/-- Whether the fill claim stands: the mode is FILL and no FILL is in flight (R153). -/
def State.fillClaim (s : State) : Bool :=
  s.mdc.mode == .fill && match s.seq.cycle with
    | some (.fill _ _) => false
    | _ => true

/-- The conditions of R126 for the SELF-REFRESH ENTRY claim. -/
def State.readyForEntry (s : State) : Bool := s.pq.isEmpty && s.rt.isEmpty && s.rowsFree && s.idle

/-- The claim that the MDC presents in row 1, if any: in INIT after the release of reset, the first operation of Table
10-3; in HOLDUP, SELF-REFRESH ENTRY under R126; in RESUME, SELF-REFRESH EXIT (R132). -/
def State.modeClaim (s : State) : Option Claim :=
  match s.mdc.mode with
  | .init =>
    if s.pins.rst || !s.idle then none
    else match s.seq.condition with
      | .selfRefresh => some .selfRefreshExit
      | .cold => some .powerUp
      | .active => some .powerUp
  | .holdup => if s.readyForEntry then some .selfRefreshEntry else none
  | .resume => if s.idle then some .selfRefreshExit else none
  | .fill => none
  | .run => none
  | .retain => none

/-! ## The grant order (R61, R62) -/

/-- Of two ranks, the one that the tie rule of Table 4-3 takes: the higher debt, or the lower number at equal debts. -/
def State.higherDebt (s : State) (a b : Option Rank) : Option Rank :=
  match a, b with
  | none, y => y
  | some x, none => some x
  | some x, some y =>
    if s.rfs[x].debt < s.rfs[y].debt then some y
    else if s.rfs[y].debt < s.rfs[x].debt then some x
    else if x ≤ y then some x else some y

/-- The refresh claim that a row of Table 4-3 takes, among the ranks that `p` admits to the row. -/
def State.refreshIn (s : State) (p : Rank → Bool) : Option Rank :=
  let r := fun n : Rank => if s.refreshClaim n && p n then some n else none
  s.higherDebt (s.higherDebt (r 0) (r 1)) (s.higherDebt (r 2) (r 3))

/-- The claim of row 1 of Table 4-3, where it is grantable in the array condition (Table 4-4). -/
def State.grantableMode (s : State) : Option Claim :=
  match s.seq.condition, s.modeClaim with
  | .cold, some .powerUp => some .powerUp
  | .active, some .powerUp => some .powerUp
  | .active, some .selfRefreshEntry => some .selfRefreshEntry
  | .selfRefresh, some .selfRefreshExit => some .selfRefreshExit
  | _, _ => none

/-- The claim of rows 2 to 8 of Table 4-3 that the grant takes on an ACTIVE array. The order is the same after a deassertion
of PWARN_N in HOLDUP: a due drain stands behind reads (R32, R61), and one that stays pressing ahead of them (R130, R51, R56),
where R41 has a read meet 'only due drain, or no drain, ahead of it' (DESIGN CHOICE, log entry 19). -/
def State.grantableWork (s : State) : Option Claim :=
  match s.refreshIn s.urgent with
  | some n => some (.refresh n)
  | none =>
    if s.drainClaim = some .pressing then some .drain
    else if s.oldestWaiting.isSome then some .read
    else if s.drainClaim = some .due then some .drain
    else if s.fillClaim then some .fill
    else match s.refreshIn (fun n => !s.urgent n) with
      | some n => some (.refresh n)
      | none => if s.scrubClaim then some .scrub else none

/-- The claim that a grant takes in this state, if the SEQ is idle and a grantable claim stands (R60 to R62). While
RST_N is asserted no claim is presented (R148). -/
def State.nextClaim (s : State) : Option Claim :=
  if !s.idle || s.pins.rst then none
  else match s.grantableMode with
    | some c => some c
    | none => if s.seq.condition = .active then s.grantableWork else none

/-! ## Quiet point, request port and timers -/

/-- The quiet point: queue and read table empty, every row FREE, the SEQ idle (R143). -/
def State.quiet (s : State) : Bool := s.pq.isEmpty && s.rt.isEmpty && s.rowsFree && s.idle

/-- What the mode and the commit state do with a request, before any check of its contents. -/
inductive Gate where
  /-- PORT_READY is low: the request is not taken (R158). -/
  | notTaken
  /-- Answered by the mode table. -/
  | answered (a : Answer)
  /-- Taken, and checked. -/
  | taken
  deriving DecidableEq, Repr

/-- WRITE, and requests of unknown kind, by mode and commit state (Table 1-4, R8). -/
def State.writeGate (s : State) : Gate :=
  if !s.pins.portReady then .notTaken
  else match s.mdc.mode with
    | .init => .notTaken
    | .fill => .answered (.retry .filling)
    | .run => if s.cfg.pending then .answered (.retry .committing) else .taken
    | .holdup => .answered (.refuse .halted)
    | .retain => .answered (.refuse .halted)
    | .resume => .answered (.retry .resuming)

/-- READ by mode and commit state (Table 2-3). -/
def State.readGate (s : State) : Gate :=
  if !s.pins.portReady then .notTaken
  else match s.mdc.mode with
    | .init => .notTaken
    | .fill => .answered (.retry .filling)
    | .run => if s.cfg.pending then .answered (.retry .committing) else .taken
    | .holdup => .taken
    | .retain => .answered (.refuse .halted)
    | .resume => .answered (.retry .resuming)

/-- FENCE by mode (Table 3-2). -/
def State.fenceGate (s : State) : Gate :=
  if !s.pins.portReady then .notTaken
  else match s.mdc.mode with
    | .init => .notTaken
    | .fill => .answered (.retry .filling)
    | .run => .taken
    | .holdup => .taken
    | .retain => .answered (.refuse .halted)
    | .resume => .answered (.retry .resuming)

/-- Whether some running timer's expiry has come and not been taken (log entry 3). -/
def State.someTimerDue (s : State) : Bool :=
  s.pq.any (fun e => e.timer.due s.now) || s.rfs[0].timer.due s.now || s.rfs[1].timer.due s.now ||
    s.rfs[2].timer.due s.now || s.rfs[3].timer.due s.now || s.scr.timer.due s.now || s.mdc.holdupTimer.due s.now

end Sys2Proof.Machine
end

