-- ==== Sys2Proof/Config.lean ====
section
/-! DEFINITION. Config.lean: the FREE VALUES of the model, which the spec leaves open. Each is a constant with no body,
so nothing in Lean can evaluate it: whatever is proved holds for every value of it. -/

namespace Sys2Proof

/-- FREE VALUE (log entry 1). R73, R91: the stored data bits of word `a` (its cell address) after the `n`th power-on,
before anything has written it. -/
opaque Config.unwrittenStored : (n a : Nat) → Word

/-- FREE VALUE (log entry 1). R91: the data bits from which the flips of such a word are counted. -/
opaque Config.unwrittenWritten : (n a : Nat) → Word

/-- FREE VALUE (log entry 1). R91: whether such a word carries the poison mark. -/
opaque Config.unwrittenPoison : (n a : Nat) → Bool

/-- FREE VALUE (log entry 1). R91: the flipped bits of such a word's check code. -/
opaque Config.unwrittenCodeFlips : (n a : Nat) → List Nat

/-- FREE VALUE (log entry 2). R77: whether word `w` of the line of the `n`th cycle cut short by a reset holds the
content that the cycle would have given it (true) or its content from before the cycle (false). -/
opaque Config.cutTakesNew : (n : Nat) → (w : Fin 4) → Bool

end Sys2Proof
end

