-- ==== Sys2Proof/Machine/Memory.lean ====
section
/-! DEFINITION. Machine/Memory.lean: the words of the ranks (R91): their cells, what a word not written since power was
applied reads as, the classification of a word read, and the words that a cycle writes. -/

namespace Sys2Proof.Machine

/-! ## Cells (log entry 9) -/

/-- The cell address of word `w` of rank line `l` of rank `r`. -/
def cellAddr (r : Rank) (l : RankLine) (w : Fin 4) : Nat := (r.val * 33554432 + l.toNat) * 4 + w.val

/-- The word listed at a cell address, if any. -/
def Memory.lookup : Memory → Nat → Option StoredWord
  | [], _ => none
  | (k, v) :: rest, a => if k = a then some v else Memory.lookup rest a

/-- The memory with word `v` at cell address `a`, its addresses still rising. -/
def Memory.store : Memory → Nat → StoredWord → Memory
  | [], a, v => [(a, v)]
  | (k, x) :: rest, a, v =>
    if a < k then (a, v) :: (k, x) :: rest
    else if a = k then (a, v) :: rest
    else (k, x) :: Memory.store rest a v

/-- The canonical form: the cell addresses rise strictly. -/
def Memory.wf : Memory → Bool
  | [] => true
  | (_, _) :: [] => true
  | (k, _) :: (k', x) :: rest => decide (k < k') && Memory.wf ((k', x) :: rest)

/-! ## Stored words (R91, R92) -/

/-- A flip of bit `i` of a check code: flipped twice, it stands as written (log entry 4). -/
def flipCodeBit (i : Nat) : List Nat → List Nat
  | [] => [i]
  | j :: rest => if i < j then i :: j :: rest else if i = j then rest else j :: flipCodeBit i rest

/-- The stored word after a flip of one of its bits (R91). -/
def StoredWord.flip (x : StoredWord) : StoredBit → StoredWord
  | .data i => { x with stored := x.stored ^^^ BitVec.ofNat 64 (2 ^ i.val) }
  | .code i => { x with codeFlips := flipCodeBit i x.codeFlips }

/-- How many bits of a word are set. -/
def bitCount (d : Word) : Nat := (List.range 64).countP d.getLsbD

/-- The number of stored bits, data or code, that differ from what was written (R91). -/
def StoredWord.flips (x : StoredWord) : Nat := bitCount (x.stored ^^^ x.written) + x.codeFlips.length

/-- The classification of a word read (Table 6-1). -/
def StoredWord.outcome (x : StoredWord) : WordOutcome :=
  match x.code with
  | .fresh => if x.flips = 0 then .clean else if x.flips = 1 then .corrected else .uncorrectable
  | .poison => if x.flips ≤ 1 then .poisoned else .uncorrectable

/-- The data that the CHK hands on for a word read: repaired for a CORRECTED word, as stored for the others (R93). -/
def StoredWord.handed (x : StoredWord) : Word := if x.outcome = .corrected then x.written else x.stored

/-- A word written with a code of form `c`, made from the data (R91). -/
def writtenWith (c : CodeForm) (d : Word) : StoredWord := { stored := d, written := d, code := c, codeFlips := [] }

/-- What a word not written since the `n`th power-on reads as: a FREE VALUE (R73, R91; log entry 1). -/
def unwrittenWord (n a : Nat) : StoredWord where
  stored := Config.unwrittenStored n a
  written := Config.unwrittenWritten n a
  code := if Config.unwrittenPoison n a then .poison else .fresh
  codeFlips := (Config.unwrittenCodeFlips n a).foldl (fun l i => flipCodeBit i l) []

/-- The stored word `w` of rank line `l` of rank `r`. -/
def State.word (s : State) (r : Rank) (l : RankLine) (w : Fin 4) : StoredWord :=
  (Memory.lookup s.array (cellAddr r l w)).getD (unwrittenWord s.powerOns (cellAddr r l w))

/-- The line of data that the CHK hands on for a line read (R93). -/
def State.handedLine (s : State) (r : Rank) (l : RankLine) : LineData :=
  lineOfWords fun w => (s.word r l w).handed

/-- The words of a line that a read finds with outcome `o`. -/
def State.wordsFound (s : State) (r : Rank) (l : RankLine) (o : WordOutcome) : WordSet :=
  wordSet fun w => decide ((s.word r l w).outcome = o)

/-- The number of words in a set. -/
def countWords (x : WordSet) : Nat := ([0, 1, 2, 3] : List (Fin 4)).countP fun w => x.getLsbD w.val

/-! ## The words a cycle writes (Table 6-2) -/

/-- The bits of a word that the bytes of an 8-bit mask select. -/
def wordMaskBits (m : BitVec 8) : Word := BitVec.ofFnLE fun i : Fin 64 => m.getLsbD (i.val / 8)

/-- The merge of R94: the entry's bytes at the masked positions, the bytes handed on by the read elsewhere. -/
def mergeWord (m : BitVec 8) (new old : Word) : Word := (new &&& wordMaskBits m) ||| (old &&& ~~~wordMaskBits m)

/-- Whether an outcome makes a merge write poison: UNCORRECTABLE or POISONED (Table 6-3). -/
def WordOutcome.damaged : WordOutcome → Bool
  | .clean => false
  | .corrected => false
  | .uncorrectable => true
  | .poisoned => true

/-- The word that the array write of an entry puts at word `w` of its line, where `old` stands, if it writes the word: a
FULL word whole with a fresh code, a PARTIAL word merged with the code its outcome calls for, a NONE word not (R68, R69,
R94). -/
def Entry.wordWritten (e : Entry) (w : Fin 4) (old : StoredWord) : Option StoredWord :=
  match coverage e.mask w with
  | .full => some (writtenWith .fresh (lineWord e.data w))
  | .part =>
    some (writtenWith (if old.outcome.damaged then .poison else .fresh)
      (mergeWord (wordMask e.mask w) (lineWord e.data w) old.handed))
  | .none => none

/-- The word that the cycle in flight puts at word `w` of its line, if it writes the word (Table 6-2). -/
def State.wordPlanned (s : State) (w : Fin 4) : Option StoredWord :=
  match s.seq.cycle with
  | some (.plainWrite r l) => s.pq.head?.bind fun e => e.wordWritten w (s.word r l w)
  | some (.mergeWrite r l) => s.pq.head?.bind fun e => e.wordWritten w (s.word r l w)
  | some (.scrub r l) =>
    if (s.word r l w).outcome = .corrected then some (writtenWith .fresh (s.word r l w).handed) else none
  | some (.fill _ _) => some (writtenWith .fresh 0)
  | some (.lineRead _ _) => none
  | some (.refresh _) => none
  | some .powerUp => none
  | some .selfRefreshEntry => none
  | some .selfRefreshExit => none
  | none => none

/-- The memory with word `w` of rank line `l` of rank `r` replaced by `x`, where there is one. -/
def storeWord (r : Rank) (l : RankLine) (w : Fin 4) (x : Option StoredWord) (m : Memory) : Memory :=
  match x with
  | some v => Memory.store m (cellAddr r l w) v
  | none => m

/-- The ranks after those words of the cycle in flight that `takes` admits have been written. -/
def State.arrayAfterCycle (s : State) (takes : Fin 4 → Bool) : Memory :=
  match s.seq.cycle.bind Cycle.target with
  | none => s.array
  | some (r, l) =>
    let put := fun (w : Fin 4) (m : Memory) => storeWord r l w (if takes w then s.wordPlanned w else none) m
    put 3 (put 2 (put 1 (put 0 s.array)))

/-- The PARTIAL words of an entry that its MERGE WRITE finds with outcome `o` (R94, R95). -/
def State.partialFound (s : State) (e : Entry) (r : Rank) (l : RankLine) (o : WordOutcome) : WordSet :=
  wordSet fun w => coverage e.mask w == .part && decide ((s.word r l w).outcome = o)

end Sys2Proof.Machine
end

