-- ==== Sys2Proof/Machine/Ops.lean ====
section
/-! DEFINITION. Machine/Ops.lean: the operations that the meanings of the commands share, block by block. -/

namespace Sys2Proof.Machine

/-! ## Events and their outputs -/

/-- The start of an event: the RSP lines and SDA carry only what this event sends (log entry 7). -/
def State.beginEvent (s : State) : State := { s with rsp := [], sda := [] }

/-- RQI sends one more response (R160). -/
def State.send (s : State) (r : Response) : State := { s with rsp := s.rsp ++ [r] }

/-- RQI answers a request of kind code `kind`, echoing kind, source and tag (R160). -/
def State.answer (s : State) (kind : BitVec 3) (m : Request) (a : Answer) : State :=
  s.send { kind := kind, source := m.source, tag := m.tag, answer := a }

/-- What becomes of a request that its owner's mode table decides, and of one that it takes. -/
def State.gated (s : State) (g : Gate) (kind : BitVec 3) (m : Request) (take : State → State) : State :=
  match g with
  | .notTaken => s
  | .answered a => s.answer kind m a
  | .taken => take s

/-- The port puts a signal on SDA (R161). -/
def State.signal (s : State) (x : SdaSignal) : State := { s with sda := s.sda ++ [x] }

/-! ## Fault log (R111, R112, R115) -/

/-- FLG takes a fault event: it numbers it, and appends its record or, when the log is full, drops it. -/
def FaultLog.take (f : FaultLog) (e : FaultEvent) : FaultLog :=
  if f.records.length < 8 then
    { f with
      records := f.records ++ [{ number := f.next, event := e }]
      next := f.next + 1
      line := f.line || enabledIn f.mask e }
  else { f with next := f.next + 1, overflow := true }

/-- FLG takes a fault event in the sender's own event (R112). -/
def State.fault (s : State) (e : FaultEvent) : State := { s with flg := s.flg.take e }

/-- FLG takes a fault event if there is one. -/
def State.faultIf (s : State) (c : Bool) (e : FaultEvent) : State := if c then s.fault e else s

/-! ## Corrected counts (R97, R98) -/

/-- A corrected count after `k` more words, saturating. -/
def addSaturating (c : BitVec 16) (k : Nat) : BitVec 16 := BitVec.ofNat 16 (min (c.toNat + k) 65535)

/-- CHK adds `k` CORRECTED words to rank `r`'s count, and sends CORRECTED_LIMIT if that carries the count to the
threshold. The word-fault event of the same completion has been taken before (R98). -/
def State.addCorrected (s : State) (r : Rank) (k : Nat) : State :=
  let count := addSaturating s.chk[r] k
  let limit := s.cfg.active.correctedThreshold
  State.faultIf { s with chk := s.chk.set r count }
    (decide (s.chk[r].toNat < limit.toNat) && decide (limit.toNat ≤ count.toNat)) (.correctedLimit r limit)

/-! ## Posting queue -/

/-- Whether a WRITE coalesces into an entry: the open entry of its source, for its line (R9, R10). -/
def coalescesInto (m : Request) (e : Entry) : Bool := e.isOpen && e.source == m.source && e.line == m.line

/-- The entry with the WRITE's bytes folded in (R10). -/
def Entry.coalesced (e : Entry) (m : Request) : Entry :=
  { e with mask := e.mask ||| m.mask, data := mergeBytes m.mask m.data e.data }

/-- PQ folds a WRITE into the entry it coalesces into (R10). -/
def State.coalesce (s : State) (m : Request) : State :=
  { s with pq := s.pq.map fun e => if coalescesInto m e then e.coalesced m else e }

/-- A closed entry (R5). -/
def Entry.close (e : Entry) : Entry := { e with isOpen := false }

/-- The entry that a WRITE becomes when it is appended (R11, R6). -/
def newEntry (m : Request) (age now : Time) : Entry where
  line := m.line
  source := m.source
  mask := m.mask
  data := maskedData m
  state := .queued
  isOpen := true
  ripe := decide (age = 0)
  fenced := false
  flushed := false
  faulted := false
  timer := if age = 0 then .stopped else .running (now + age)

/-- PQ appends a WRITE, which closes its source's open entry (R11). -/
def State.append (s : State) (m : Request) : State :=
  { s with pq := (s.pq.map fun e => if e.source = m.source then e.close else e) ++
      [newEntry m s.cfg.active.ageTime s.now] }

/-- The head as the grant of its drain claim leaves it: WRITING and closed (R16). -/
def Entry.granted (e : Entry) : Entry := { e with state := .writing, isOpen := false }

/-! ## Fence table (R48, R49, R55) -/

/-- What the PQ reports to the FT at a departure or a discard (R18, R19). -/
structure Report where
  source    : Source
  fenced    : Bool
  flushed   : Bool
  faulted   : Bool
  discarded : Bool
  deriving DecidableEq, Repr

/-- The report of a departure (R18). -/
def Entry.departureReport (e : Entry) : Report :=
  { source := e.source, fenced := e.fenced, flushed := e.flushed, faulted := e.faulted, discarded := false }

/-- The report of a discard (R19). -/
def Entry.discardReport (e : Entry) : Report :=
  { source := e.source, fenced := e.fenced, flushed := e.flushed, faulted := false, discarded := true }

/-- The status of the FDONE of a fence whose remaining count has reached 0 (Table 3-3). -/
def PendingFence.status (f : PendingFence) : FenceStatus :=
  if f.discarded then .discarded else if f.faulted then .faulted else .clean

/-- A pending fence after a report of one of its covered entries (R48). -/
def PendingFence.counted (f : PendingFence) (r : Report) : PendingFence :=
  { f with
    remaining := f.remaining - 1
    faulted := f.faulted || r.faulted
    discarded := f.discarded || r.discarded }

/-- A fence row after a report of its source with the fenced mark: PENDING with the new count, or FREE at 0 (R48, R49). -/
def FenceRow.counted (row : FenceRow) (r : Report) : FenceRow :=
  match row with
  | .free => .free
  | .pending f => if (f.counted r).remaining = 0 then .free else .pending (f.counted r)

/-- The FDONE that a report brings about, if its row reaches 0 (R49). -/
def FenceRow.done (row : FenceRow) (r : Report) : List Response :=
  match row with
  | .free => []
  | .pending f =>
    if (f.counted r).remaining = 0 then
      [{ kind := 2, source := r.source, tag := f.tag, answer := .fdone (f.counted r).status }]
    else []

/-- The flush state after a report with the flushed mark (R55). -/
def Flush.counted (f : Flush) : Flush :=
  if f.active then
    if f.remaining ≤ 1 then { active := false, remaining := 0, complete := true }
    else { f with remaining := f.remaining - 1 }
  else f

/-- FT counts a report; FDONE leaves if its row reaches 0 (R48, R49, R55). -/
def State.report (s : State) (r : Report) : State :=
  { s with
    ft :=
      { rows := if r.fenced then s.ft.rows.set r.source (s.ft.rows[r.source].counted r) else s.ft.rows
        flush := if r.flushed then s.ft.flush.counted else s.ft.flush }
    rsp := s.rsp ++ if r.fenced then s.ft.rows[r.source].done r else [] }

/-- PQ discards every QUEUED entry, and FT counts each discard report in queue order (R19, R127 steps 1 and 2). -/
def State.discardQueued (s : State) : State :=
  (s.pq.filter fun e => !e.isWriting).foldl (fun t e => t.report e.discardReport)
    { s with pq := s.pq.filter Entry.isWriting }

/-! ## Read table -/

/-- The response to a read record (R38, R41): kind READ, with the record's source and tag. -/
def ReadRecord.answered (r : ReadRecord) (a : Answer) : Response :=
  { kind := 1, source := r.source, tag := r.tag, answer := a }

/-- Whether a record is WAITING. -/
def ReadRecord.isWaiting (r : ReadRecord) : Bool := r.state == .waiting

/-- RT answers every WAITING record REFUSE HALTED, in arrival order, and removes it (R41, R129). -/
def State.refuseWaiting (s : State) : State :=
  { s with
    rt := s.rt.filter fun r => !r.isWaiting
    rsp := s.rsp ++ (s.rt.filter ReadRecord.isWaiting).map fun r => r.answered (.refuse .halted) }

/-! ## Sequencer -/

/-- SEQ begins a cycle (R60). -/
def State.startCycle (s : State) (c : Cycle) : State := { s with seq := { s.seq with cycle := some c } }

/-- SEQ becomes idle (R63). -/
def State.endCycle (s : State) : State := { s with seq := { s.seq with cycle := none } }

/-- The array condition becomes `c` (R59). -/
def State.setCondition (s : State) (c : ArrayCondition) : State := { s with seq := { s.seq with condition := c } }

/-- The array port finishes the cycle in flight: every word that it writes stands in the array (R63). -/
def State.finishWords (s : State) : State := { s with array := s.arrayAfterCycle fun _ => true }

/-! ## Refresh scheduler -/

/-- A fresh start of the tick timer of every enabled rank; the others are stopped (R79). -/
def State.startTicks (s : State) : State :=
  { s with rfs := Vector.ofFn fun n : Rank =>
      { s.rfs[n] with timer :=
          if s.cfg.active.ranks[n].enable then .running (s.now + s.cfg.active.refreshTime) else .stopped } }

/-- Every tick timer stops, and the debts are held (R79, R87). -/
def State.stopTicks (s : State) : State :=
  { s with rfs := s.rfs.map fun x => { x with timer := .stopped } }

/-- Every debt becomes 0 (R87). -/
def State.clearDebts (s : State) : State := { s with rfs := s.rfs.map fun x => { x with debt := 0 } }

/-! ## Scrubber -/

/-- A fresh start of the scrub timer, if scrub is enabled; the due flag stays no (Table 6-6). -/
def State.startScrub (s : State) : State :=
  if s.cfg.active.scrubEnable then
    { s with scr := { s.scr with timer := .running (s.now + s.cfg.active.scrubTime), due := false } }
  else s

/-- The scrub timer stops and the due flag is cleared (Table 6-6). -/
def State.stopScrub (s : State) : State := { s with scr := { s.scr with timer := .stopped, due := false } }

/-- The pointer advance of R105, with the pass count at a wrap. -/
def State.advancePointer (s : State) : State :=
  if s.scr.line.toNat + 1 < s.cfg.active.ranks[s.scr.rank].size.lines then
    { s with scr := { s.scr with line := s.scr.line + 1 } }
  else match s.cfg.active.nextRank s.scr.rank with
    | some n => { s with scr := { s.scr with rank := n, line := 0 } }
    | none =>
      { s with scr := { s.scr with rank := s.cfg.active.lowestRank, line := 0, passCount := s.scr.passCount + 1 } }

/-! ## Modes (R123, R133, R152) -/

/-- The mode becomes `m`. -/
def State.setMode (s : State) (m : Mode) : State := { s with mdc := { s.mdc with mode := m } }

/-- CFG ends a pending commit CANCELLED (R146). -/
def State.cancelCommit (s : State) : State :=
  if s.cfg.pending then { s with cfg := { s.cfg with pending := false, outcome := .cancelled } } else s

/-- The hold-up timer starts at the hold-up time of the active set (R124). -/
def State.startHoldup (s : State) : State :=
  { s with mdc := { s.mdc with holdupTimer := .running (s.now + s.cfg.active.holdTime) } }

/-- The hold-up timer stops (R124). -/
def State.stopHoldup (s : State) : State := { s with mdc := { s.mdc with holdupTimer := .stopped } }

/-- MDC enters HOLDUP (R123). -/
def State.enterHoldup (s : State) : State := (s.setMode .holdup).startHoldup.cancelCommit.stopScrub

/-- The mode becomes RUN, and MDC looks at PWARN_N (R133, Table 6-6). -/
def State.becomeRun (s : State) : State :=
  let t := (s.setMode .run).startScrub
  if t.pins.pwarn then t.enterHoldup else t

/-- PORT_READY goes high (R158). -/
def State.raiseReady (s : State) : State := { s with pins := { s.pins with portReady := true } }

/-- The fill pointer names rank line 0 of the lowest-numbered enabled rank (R152). -/
def State.startFill (s : State) : State :=
  { s with mdc := { s.mdc with mode := .fill, fillRank := s.cfg.active.lowestRank, fillLine := 0 } }

/-- INIT ends (R152): FILL or RUN by fill complete, a fresh start for the tick timers, PORT_READY high. -/
def State.endInit (s : State) : State :=
  let t := s.startTicks.raiseReady
  if t.mdc.record.fillComplete then t.becomeRun else t.startFill

/-! ## Resets (R148, R150) -/

/-- The values that every block takes at every kind of reset, with the straps sampled at it and the reset record that
the reset leaves (R20, R43, R57, R76, R90, R100, R108, R120, R134, R147, R148, R157, R166). -/
def State.resetBlocks (s : State) (st : Straps) (r : ResetRecord) : State :=
  { s with
    pq := []
    rt := []
    ft := fenceTableAtReset
    seq := { s.seq with cycle := none }
    rfs := refreshAtReset
    chk := Vector.replicate 4 0
    scr := scrubberAtReset
    flg := faultLogAtReset
    mdc := modeControllerAtReset r
    cfg := configAtReset st
    mnt := maintPortAtReset st
    pins := { s.pins with portReady := false } }

/-- The reset record after an external or maintenance reset (Table 10-2). -/
def State.recordAtReset (s : State) (c : ResetCause) : ResetRecord where
  cause := c
  modeAtReset := some s.mdc.mode
  discarded := s.occupancy
  writeCut := s.pq.any Entry.isWriting
  fillComplete := s.mdc.record.fillComplete

/-- The cycle in flight, if any, is cut short: each word it would have written is old or new, by a FREE VALUE (R77; log
entry 2). The array condition stays as it is: Table 4-11 gives no other for any kind. -/
def State.cutCycle (s : State) : State :=
  if s.idle then s else { s with array := s.arrayAfterCycle (Config.cutTakesNew s.cuts), cuts := s.cuts + 1 }

/-- An external or maintenance reset (R148): the cycle in flight is cut short, and every block takes its reset values. -/
def State.warmReset (s : State) (c : ResetCause) (st : Straps) : State :=
  s.cutCycle.resetBlocks st (s.recordAtReset c)

/-! ## Maintenance port (R161, R162, R164) -/

/-- The transfer state becomes `x`. -/
def State.setTransfer (s : State) (x : Transfer) : State := { s with mnt := { s.mnt with transfer := x } }

/-- The pointer rises by 1, wrapping (R162, R163). -/
def State.bumpPointer (s : State) : State := { s with mnt := { s.mnt with pointer := s.mnt.pointer + 1 } }

/-- A byte of a write transfer is refused: NACK, and every further byte of the transfer is ignored (R162). -/
def State.refuseByte (s : State) : State := (s.setTransfer .writeIgnored).signal .nack

/-- A register write completes: its low byte is acknowledged, the pointer rises by 1, and the next register's high byte
is awaited (R162). -/
def State.finishRegisterWrite (s : State) : State := (s.bumpPointer.setTransfer .writeHigh).signal .ack

/-- The result of a command is placed in the result register (R164). -/
def State.setResult (s : State) (code : BitVec 4) (r : ResultCode) : State :=
  { s with mnt := { s.mnt with result := { result := r, command := code } } }

/-- The low byte `lo` of a register write to a register that `here` admits: ignored and NACKed after a NACK (R162);
otherwise, with a high byte held, what `body` makes of that byte. In any other transfer state, or at any other register,
this is not that event, and it has no effect (log entry 5). -/
def State.lowByte (s : State) (here : BitVec 8 → Bool) (body : Byte → State → State) : State :=
  match s.mnt.transfer with
  | .writeIgnored => s.refuseByte
  | .writeLow hi => if here s.mnt.pointer then body hi s else s
  | .idle => s
  | .writePointer => s
  | .writeHigh => s
  | .readHigh => s
  | .readLow _ => s

/-- The address of the command register (Table 11-8). -/
def commandAddress : BitVec 8 := 0x08

/-- A command: the low byte of a write of the command register whose code is `code` (R164). It is carried out by `run`,
which is given the high byte, its result is placed in the result register, and the register write completes. -/
def State.command (s : State) (code : BitVec 4) (lo : Byte) (run : Byte → State → State × ResultCode) : State :=
  s.lowByte (fun p => p == commandAddress && commandCode lo == code) fun hi t =>
    let r := run hi t
    (r.1.setResult code r.2).finishRegisterWrite

end Sys2Proof.Machine
end

