-- ==== Sys2Proof/Machine/ArrayFlip.lean ====
section
/-! DEFINITION. Machine/ArrayFlip.lean: a flip of a stored bit (chapter 6). -/

namespace Sys2Proof.Machine

/-- STORED_BIT_FLIP (R91): one data or code bit of a stored word flips. The device does not record it. -/
def execStoredBitFlip (r : Rank) (l : RankLine) (w : Fin 4) (b : StoredBit) (s : State) : Out :=
  let t := s.beginEvent
  .next { t with array := Memory.store t.array (cellAddr r l w) ((t.word r l w).flip b) }

end Sys2Proof.Machine
end

