-- ==== Sys2Proof/Machine/Commands.lean ====
section
/-! DEFINITION. Machine/Commands.lean: the commands of the maintenance port (Table 11-7), each the completion of a write
of the command register (R164). -/

namespace Sys2Proof.Machine

/-- FT takes a FLUSH (Table 3-5). -/
def State.takeFlush (s : State) : State × ResultCode :=
  if s.ft.flush.active then (s, .busy)
  else if s.pq.isEmpty then
    ({ s with ft := { s.ft with flush := { s.ft.flush with complete := true } } }, .done)
  else
    ({ s with
      pq := s.pq.map fun e => { e with flushed := true, isOpen := false }
      ft := { s.ft with flush := { active := true, remaining := s.occupancy, complete := false } } }, .done)

/-- FLUSH (R54). -/
def execFlush (lo : Byte) (s : State) : Out := .next (s.beginEvent.command 1 lo fun _ t => t.takeFlush)

/-- FLG removes the oldest record, if there is one (R116), and re-evaluates FAULT_N (R115). -/
def FaultLog.pop (f : FaultLog) : FaultLog × ResultCode :=
  match f.records with
  | [] => (f, .empty)
  | _ :: rest => ({ f with records := rest, line := f.line && someEnabled f.mask rest }, .done)

/-- POP_LOG (R116). -/
def execPopLog (lo : Byte) (s : State) : Out :=
  .next (s.beginEvent.command 2 lo fun _ t => ({ t with flg := t.flg.pop.1 }, t.flg.pop.2))

/-- CLEAR_OVERFLOW (R117). -/
def execClearOverflow (lo : Byte) (s : State) : Out :=
  .next (s.beginEvent.command 3 lo fun _ t => ({ t with flg := { t.flg with overflow := false } }, .done))

/-- The rank argument of a command: bits 9:8 of the command register, the low bits of its high byte (Table 11-8). -/
def rankArgument (hi : Byte) : Rank := (hi.setWidth 2).toFin

/-- CLEAR_CORRECTED (R99). -/
def execClearCorrected (lo : Byte) (s : State) : Out :=
  .next (s.beginEvent.command 4 lo fun hi t => ({ t with chk := t.chk.set (rankArgument hi) 0 }, .done))

/-- The commit outcome becomes REJECTED with a reason (R139). -/
def State.rejectCommit (s : State) (r : CommitReason) : State × ResultCode :=
  ({ s with cfg := { s.cfg with outcome := .rejected r } }, .rejected r)

/-- CFG takes a COMMIT (Table 9-2). -/
def State.takeCommit (s : State) : State × ResultCode :=
  if s.mdc.mode ≠ .run then s.rejectCommit .notRunning
  else if s.cfg.pending then (s, .busy)
  else match commitCheck s.cfg.staged with
    | some r => s.rejectCommit r
    | none => ({ s with cfg := { s.cfg with pending := true, outcome := .accepted } }, .accepted)

/-- COMMIT (R139). -/
def execCommit (lo : Byte) (s : State) : Out := .next (s.beginEvent.command 5 lo fun _ t => t.takeCommit)

/-- CFG takes an ABORT_COMMIT (R145). -/
def State.takeAbort (s : State) : State × ResultCode :=
  if s.cfg.pending then ({ s with cfg := { s.cfg with pending := false, outcome := .aborted } }, .done)
  else (s, .notPending)

/-- ABORT_COMMIT (R145). -/
def execAbortCommit (lo : Byte) (s : State) : Out := .next (s.beginEvent.command 6 lo fun _ t => t.takeAbort)

/-- RESET (R149): a maintenance reset in the event that completes the write of the command register. The low byte is
acknowledged (R166), no result is left, and the INIT sequence begins at once. -/
def execReset (lo : Byte) (st : Straps) (s : State) : Out :=
  .next (s.beginEvent.lowByte (fun p => p == commandAddress && commandCode lo == 7) fun _ t =>
    (t.warmReset .maintenance st).signal .ack)

/-- UNKNOWN_COMMAND (R164): answered UNKNOWN, and nothing else changes. -/
def execUnknownCommand (lo : Byte) (s : State) : Out :=
  .next (if namesNoCommand (commandCode lo) then s.beginEvent.command (commandCode lo) lo fun _ t => (t, .unknown)
    else s.beginEvent)

end Sys2Proof.Machine
end

