-- ==== Sys2Proof/Machine/Commit.lean ====
section
/-! DEFINITION. Machine/Commit.lean: the application of a commit at the quiet point (chapter 9). -/

namespace Sys2Proof.Machine

/-- RFS at an application, for one rank (Table 5-5). -/
def refreshAtCommit (old new : Settings) (now : Time) (n : Rank) (x : RankRefresh) : RankRefresh :=
  if rankUnchanged old new n then x
  else { debt := 0, timer := if new.ranks[n].enable then .running (now + new.refreshTime) else .stopped }

/-- The scrub timer and due flag at an application (Table 6-6). -/
def scrubTimerAtCommit (old new : Settings) (now : Time) (x : Scrubber) : Scrubber :=
  if new.scrubEnable then
    if old.scrubEnable then x else { x with timer := .running (now + new.scrubTime), due := false }
  else { x with timer := .stopped, due := false }

/-- The scrub pointer at an application: kept if its rank is unchanged, otherwise line 0 of the lowest enabled rank; the
pass count is kept (R107). -/
def scrubPointerAtCommit (old new : Settings) (x : Scrubber) : Scrubber :=
  if rankUnchanged old new x.rank then x else { x with rank := new.lowestRank, line := 0 }

/-- CFG applies the pending commit (R143), and each block adjusts its rank-dependent state (R144). -/
def State.applyCommit (s : State) : State :=
  let old := s.cfg.active
  let new := s.cfg.staged
  { s with
    cfg := { s.cfg with active := new, pending := false, outcome := .applied }
    rfs := Vector.ofFn fun n : Rank => refreshAtCommit old new s.now n s.rfs[n]
    chk := Vector.ofFn fun n : Rank => if rankUnchanged old new n then s.chk[n] else 0
    scr := scrubPointerAtCommit old new (scrubTimerAtCommit old new s.now s.scr) }

/-- QUIET_POINT_APPLICATION (R143). While no commit is pending, or the quiet point does not hold, there is no
application (log entry 5). -/
def execQuietPointApplication (s : State) : Out :=
  let t := s.beginEvent
  .next (if t.cfg.pending && t.quiet then t.applyCommit else t)

end Sys2Proof.Machine
end

