-- ==== Sys2Proof/Machine/Messages.lean ====
section
/-! DEFINITION. Machine/Messages.lean: the messages of the request port (Tables 11-3, 11-4 and 11-5): which command a
request message is, and the fields of a response message. -/

namespace Sys2Proof.Machine

/-- A request message (Table 11-3). -/
structure RequestMessage where
  kind : BitVec 3
  body : Request
  deriving DecidableEq, Repr

/-- The command that a request message is: RQI hands it to its owner by its kind code (R158). -/
def RequestMessage.command (m : RequestMessage) : Instr :=
  if m.kind = 0 then .write m.body
  else if m.kind = 1 then .read m.body
  else if m.kind = 2 then .fence m.body
  else .unknownKindRequest m.kind m.body

/-- A response message (Table 11-4). -/
structure ResponseMessage where
  kind     : BitVec 3
  source   : BitVec 2
  tag      : BitVec 4
  response : BitVec 3
  code     : BitVec 4
  poison   : BitVec 4
  data     : BitVec 256
  deriving DecidableEq, Repr

/-- The response field (Table 11-4). -/
def Answer.responseCode : Answer → BitVec 3
  | .wack => 0
  | .rdata _ _ => 1
  | .fdone _ => 2
  | .retry _ => 3
  | .refuse _ => 4

/-- The RETRY reasons (Table 11-5). -/
def RetryReason.code : RetryReason → BitVec 4
  | .full => 1
  | .tableFull => 2
  | .filling => 3
  | .resuming => 4
  | .committing => 5

/-- The REFUSE reasons (Table 11-5). -/
def RefuseReason.code : RefuseReason → BitVec 4
  | .unmapped => 1
  | .malformed => 2
  | .halted => 3
  | .tagInUse => 4
  | .fenceBusy => 5

/-- The FDONE statuses (Table 11-5). -/
def FenceStatus.code : FenceStatus → BitVec 4
  | .clean => 0
  | .faulted => 1
  | .discarded => 2

/-- The code field: reason for RETRY or REFUSE, status for FDONE, 0 otherwise (Table 11-4). -/
def Answer.code : Answer → BitVec 4
  | .wack => 0
  | .rdata _ _ => 0
  | .fdone s => s.code
  | .retry r => r.code
  | .refuse r => r.code

/-- The poison field: for RDATA the poison set, 0 otherwise (Table 11-4). -/
def Answer.poisonField : Answer → BitVec 4
  | .rdata _ p => p
  | .wack => 0
  | .fdone _ => 0
  | .retry _ => 0
  | .refuse _ => 0

/-- The data field: for RDATA the 32 bytes, 0 otherwise (Table 11-4). -/
def Answer.dataField : Answer → BitVec 256
  | .rdata d _ => d
  | .wack => 0
  | .fdone _ => 0
  | .retry _ => 0
  | .refuse _ => 0

/-- The message that carries a response (R160). -/
def Response.message (r : Response) : ResponseMessage where
  kind := r.kind
  source := BitVec.ofFin r.source
  tag := r.tag
  response := r.answer.responseCode
  code := r.answer.code
  poison := r.answer.poisonField
  data := r.answer.dataField

end Sys2Proof.Machine
end

