-- ==== Sys2Proof/Machine/Power.lean ====
section
/-! DEFINITION. Machine/Power.lean: the changes of level on PWARN_N (chapter 8). A change to the level that already
stands cannot occur, and has no effect (log entry 5). -/

namespace Sys2Proof.Machine

/-- The level of PWARN_N becomes `b`. -/
def State.setPwarn (s : State) (b : Bool) : State := { s with pins := { s.pins with pwarn := b } }

/-- PWARN_N_ASSERTED (Table 8-2): in RUN, HOLDUP is entered. -/
def execPwarnAsserted (s : State) : Out :=
  let t := s.beginEvent
  .next (if t.pins.pwarn then t
    else match t.mdc.mode with
      | .run => (t.setPwarn true).enterHoldup
      | .init => t.setPwarn true
      | .fill => t.setPwarn true
      | .holdup => t.setPwarn true
      | .retain => t.setPwarn true
      | .resume => t.setPwarn true)

/-- The mode returns from HOLDUP to RUN (R130): the hold-up timer stops, the scrub timer starts if scrub is enabled. -/
def State.returnToRun (s : State) : State := (s.setMode .run).stopHoldup.startScrub

/-- PWARN_N_DEASSERTED (Table 8-2): in HOLDUP before the grant of SELF-REFRESH ENTRY the mode returns to RUN (R130), in
RETAIN it becomes RESUME (R131). -/
def execPwarnDeasserted (s : State) : Out :=
  let t := s.beginEvent
  .next (if !t.pins.pwarn then t
    else match t.mdc.mode with
      | .holdup =>
        if t.seq.cycle = some .selfRefreshEntry then t.setPwarn false else (t.setPwarn false).returnToRun
      | .retain => (t.setPwarn false).setMode .resume
      | .init => t.setPwarn false
      | .fill => t.setPwarn false
      | .run => t.setPwarn false
      | .resume => t.setPwarn false)

end Sys2Proof.Machine
end

