-- ==== Sys2Proof/Machine/RegisterMap.lean ====
section
/-! DEFINITION. Machine/RegisterMap.lean: the register window (Table 11-8): which register stands at an address, what it
reads as, and what a write of it does (R138, R162 to R165). -/

namespace Sys2Proof.Machine

/-! ## Encodings (R165) -/

/-- A field of a register: `v` at bit `k` and above. -/
def field (k : Nat) (v : Nat) : BitVec 16 := BitVec.ofNat 16 (v <<< k)

/-- A one-bit field at bit `k`. -/
def flagAt (k : Nat) (b : Bool) : BitVec 16 := if b then field k 1 else 0

/-- The code of a mode. -/
def Mode.code : Mode → Nat
  | .init => 0
  | .fill => 1
  | .run => 2
  | .holdup => 3
  | .retain => 4
  | .resume => 5

/-- The code of the mode at reset: 7 for NONE. -/
def modeAtResetCode : Option Mode → Nat
  | none => 7
  | some m => m.code

/-- The code of a reset cause. -/
def ResetCause.code : ResetCause → Nat
  | .powerOn => 0
  | .external => 1
  | .maintenance => 2

/-- The code of a commit outcome. -/
def CommitOutcome.code : CommitOutcome → Nat
  | .none => 0
  | .rejected _ => 1
  | .accepted => 2
  | .applied => 3
  | .aborted => 4
  | .cancelled => 5

/-- The code of a commit reason (below Table 11-7). -/
def CommitReason.code : CommitReason → Nat
  | .align => 1
  | .space => 2
  | .overlap => 3
  | .noRank => 4
  | .marks => 5
  | .refresh => 6
  | .urgent => 7
  | .holdup => 8
  | .scrub => 9
  | .notRunning => 10

/-- The reason code with an outcome: 0 with any but REJECTED. -/
def CommitOutcome.reasonCode : CommitOutcome → Nat
  | .rejected r => r.code
  | .none => 0
  | .accepted => 0
  | .applied => 0
  | .aborted => 0
  | .cancelled => 0

/-- The code of a result (below Table 11-7). -/
def ResultCode.code : ResultCode → Nat
  | .none => 0
  | .done => 1
  | .empty => 2
  | .busy => 3
  | .accepted => 4
  | .rejected _ => 5
  | .notPending => 6
  | .unknown => 7

/-- The reason code with a result: 0 with any but REJECTED. -/
def ResultCode.reasonCode : ResultCode → Nat
  | .rejected r => r.code
  | .none => 0
  | .done => 0
  | .empty => 0
  | .busy => 0
  | .accepted => 0
  | .notPending => 0
  | .unknown => 0

/-- The code of a rank size. -/
def RankSize.code : RankSize → Nat
  | .mib128 => 0
  | .mib256 => 1
  | .mib512 => 2
  | .mib1024 => 3

/-! ## Staged registers -/

/-- The staged register of rank `n` at offset 0 to 2 of its group, if there is one: offset 3 holds no register. -/
def rankRegister (n : Rank) (off : Nat) : Option StagedRegister :=
  match off with
  | 0 => some (.rankControl n)
  | 1 => some (.rankBaseHigh n)
  | 2 => some (.rankBaseLow n)
  | _ => none

/-- The staged register at an address, if there is one: 0x30+4n to 0x32+4n, and 0x40 to 0x46. -/
def stagedRegisterAt (a : BitVec 8) : Option StagedRegister :=
  match a.toNat with
  | 0x40 => some .refresh
  | 0x41 => some .marks
  | 0x42 => some .ageLimit
  | 0x43 => some .scrub
  | 0x44 => some .scrubInterval
  | 0x45 => some .correctedThreshold
  | 0x46 => some .holdupTime
  | n => if 0x30 ≤ n ∧ n < 0x40 then rankRegister (Fin.ofNat 4 ((n - 0x30) / 4)) ((n - 0x30) % 4) else none

/-- The value of a staged register's fields in a set (Table 11-8). -/
def StagedRegister.value (r : StagedRegister) (c : Settings) : BitVec 16 :=
  match r with
  | .rankControl n => flagAt 0 c.ranks[n].enable ||| field 4 c.ranks[n].size.code
  | .rankBaseHigh n => field 0 (c.ranks[n].base.extractLsb' 16 12).toNat
  | .rankBaseLow n => c.ranks[n].base.extractLsb' 0 16
  | .refresh => field 0 c.refreshInterval.toNat ||| field 8 c.urgentLevel.toNat
  | .marks => field 0 c.drainThreshold.toNat ||| field 8 c.highMark.toNat
  | .ageLimit => field 0 c.ageLimit.toNat
  | .scrub => flagAt 0 c.scrubEnable
  | .scrubInterval => c.scrubInterval
  | .correctedThreshold => c.correctedThreshold
  | .holdupTime => field 0 c.holdupTime.toNat

/-- A set with the fields of rank `n` replaced. -/
def Settings.setRank (c : Settings) (n : Rank) (x : RankSettings) : Settings := { c with ranks := c.ranks.set n x }

/-- A set after a register write of `v`: the fields that the register carries are replaced, the other bits ignored
(R138, R162, R165). -/
def StagedRegister.write (r : StagedRegister) (v : BitVec 16) (c : Settings) : Settings :=
  match r with
  | .rankControl n =>
    c.setRank n { c.ranks[n] with enable := v.getLsbD 0, size := rankSizeOfCode (v.extractLsb' 4 2) }
  | .rankBaseHigh n =>
    c.setRank n { c.ranks[n] with base := v.extractLsb' 0 12 ++ c.ranks[n].base.extractLsb' 0 16 }
  | .rankBaseLow n =>
    c.setRank n { c.ranks[n] with base := c.ranks[n].base.extractLsb' 16 12 ++ v }
  | .refresh => { c with refreshInterval := v.extractLsb' 0 8, urgentLevel := v.extractLsb' 8 4 }
  | .marks => { c with drainThreshold := v.extractLsb' 0 5, highMark := v.extractLsb' 8 5 }
  | .ageLimit => { c with ageLimit := v.extractLsb' 0 8 }
  | .scrub => { c with scrubEnable := v.getLsbD 0 }
  | .scrubInterval => { c with scrubInterval := v }
  | .correctedThreshold => { c with correctedThreshold := v }
  | .holdupTime => { c with holdupTime := v.extractLsb' 0 8 }

/-! ## Access (Table 11-8, Table 11-6) -/

/-- The address of the fault enable register. -/
def faultEnableAddress : BitVec 8 := 0x0A

/-- The address of the first head record register. -/
def headRecordAddress : BitVec 8 := 0x0C

/-- Whether a register write of the register at an address is taken now: the command and fault enable registers always,
a staged register while no commit is pending (R138); a read-only register, or none, never. -/
def State.writableAt (s : State) (a : BitVec 8) : Bool :=
  a == commandAddress || a == faultEnableAddress || (stagedRegisterAt a).isSome && !s.cfg.pending

/-! ## Reading (R163, R165) -/

/-- The snapshot of a record (R118): its fields, each absent one 0. -/
def FaultRecord.snapshot (r : FaultRecord) : HeadSnapshot :=
  let s := { emptySnapshot with present := true, number := r.number, kind := BitVec.ofNat 3 r.event.kind.code }
  match r.event with
  | .correctedLimit n c => { s with rank := BitVec.ofFin n, count := c }
  | .readUncorrectable n l q w => { s with rank := BitVec.ofFin n, line := l, source := BitVec.ofFin q, words := w }
  | .mergeUncorrectable n l q w => { s with rank := BitVec.ofFin n, line := l, source := BitVec.ofFin q, words := w }
  | .scrubUncorrectable n l w => { s with rank := BitVec.ofFin n, line := l, words := w }
  | .refreshOverrun n => { s with rank := BitVec.ofFin n }
  | .holdupDiscard c => { s with count := BitVec.ofNat 16 c }

/-- The snapshot of the oldest record of the log, or the empty one (R118). -/
def FaultLog.snapshot (f : FaultLog) : HeadSnapshot :=
  match f.records with
  | [] => emptySnapshot
  | r :: _ => r.snapshot

/-- The value of the head record register at offset `i`, from the snapshot buffer (Table 11-8, 0x0C to 0x10). -/
def HeadSnapshot.register (h : HeadSnapshot) (i : Nat) : BitVec 16 :=
  match i with
  | 0 => flagAt 15 h.present ||| field 8 h.kind.toNat ||| field 0 h.number.toNat
  | 1 => field 0 h.rank.toNat ||| field 4 h.source.toNat ||| field 8 h.words.toNat
  | 2 => field 0 (h.line.toNat / 65536)
  | 3 => field 0 h.line.toNat
  | _ => h.count

/-- The two registers of a pointer, a rank and a rank line (Table 11-8, 0x20 and 0x21). -/
def pointerRegister (r : Rank) (l : RankLine) (low : Bool) : BitVec 16 :=
  if low then field 0 l.toNat else field 12 r.val ||| field 0 (l.toNat / 65536)

/-- The value of a staged register, or of its mirror, at an address that may hold none. -/
def stagedValueAt (a : BitVec 8) (c : Settings) : BitVec 16 :=
  match stagedRegisterAt a with
  | some r => r.value c
  | none => 0

/-- The value of the register at an address (Table 11-8); a register that does not exist, and the write-only command
register, read as 0x0000 (R163, R164). -/
def State.readRegister (s : State) (a : BitVec 8) : BitVec 16 :=
  match a.toNat with
  | 0x00 => 0x3A71
  | 0x01 => 0x0412
  | 0x02 => 0x0001
  | 0x04 => field 0 s.mdc.mode.code ||| flagAt 8 s.pins.pwarn
  | 0x05 => field 0 s.occupancy ||| field 8 s.rt.length ||| field 12 s.pendingRows
  | 0x06 => flagAt 0 s.cfg.pending ||| field 4 s.cfg.outcome.code ||| field 8 s.cfg.outcome.reasonCode
  | 0x07 => flagAt 0 s.ft.flush.active ||| field 4 s.ft.flush.remaining ||| flagAt 12 s.ft.flush.complete
  | 0x09 =>
    field 0 s.mnt.result.result.code ||| field 8 s.mnt.result.result.reasonCode ||| field 12 s.mnt.result.command.toNat
  | 0x0A => field 0 s.flg.mask.toNat
  | 0x0B => field 0 s.flg.records.length ||| flagAt 8 s.flg.overflow
  | 0x0C => s.mnt.snapshot.register 0
  | 0x0D => s.mnt.snapshot.register 1
  | 0x0E => s.mnt.snapshot.register 2
  | 0x0F => s.mnt.snapshot.register 3
  | 0x10 => s.mnt.snapshot.register 4
  | 0x14 =>
    field 0 s.mdc.record.cause.code ||| field 4 (modeAtResetCode s.mdc.record.modeAtReset) |||
      field 8 s.mdc.record.discarded ||| flagAt 13 s.mdc.record.writeCut ||| flagAt 14 s.mdc.record.fillComplete
  | 0x18 => field 0 s.rfs[0].debt
  | 0x19 => field 0 s.rfs[1].debt
  | 0x1A => field 0 s.rfs[2].debt
  | 0x1B => field 0 s.rfs[3].debt
  | 0x1C => s.chk[0]
  | 0x1D => s.chk[1]
  | 0x1E => s.chk[2]
  | 0x1F => s.chk[3]
  | 0x20 => pointerRegister s.scr.rank s.scr.line false
  | 0x21 => pointerRegister s.scr.rank s.scr.line true
  | 0x22 => s.scr.passCount
  | 0x24 => pointerRegister s.mdc.fillRank s.mdc.fillLine false
  | 0x25 => pointerRegister s.mdc.fillRank s.mdc.fillLine true
  | n =>
    if 0x30 ≤ n ∧ n ≤ 0x46 then stagedValueAt a s.cfg.staged
    else if 0x70 ≤ n ∧ n ≤ 0x86 then stagedValueAt (a - 0x40) s.cfg.active
    else 0

/-- The high byte of a register value. -/
def highByte (v : BitVec 16) : Byte := v.extractLsb' 8 8

/-- The low byte of a register value. -/
def lowByteOf (v : BitVec 16) : Byte := v.extractLsb' 0 8

end Sys2Proof.Machine
end

