-- ==== Sys2Proof/Machine/Registers.lean ====
section
/-! DEFINITION. Machine/Registers.lean: the bytes and conditions of the maintenance port that are no command: register
writes and reads, the pointer, START and STOP (chapter 11). Log entry 10 says which row stands for which byte. -/

namespace Sys2Proof.Machine

/-- FLG takes a new enable mask and re-evaluates FAULT_N (R114, R115). -/
def FaultLog.setMask (f : FaultLog) (m : BitVec 6) : FaultLog := { f with mask := m, line := someEnabled m f.records }

/-- FAULT_ENABLE_WRITE (R114): the low byte of a write of the fault enable register; bits 5:0 are the mask. -/
def execFaultEnableWrite (lo : Byte) (s : State) : Out :=
  .next (s.beginEvent.lowByte (fun p => p == faultEnableAddress) fun _ t =>
    { t with flg := t.flg.setMask (lo.setWidth 6) }.finishRegisterWrite)

/-- CFG takes the completion of a staged register write, or refuses it while a commit is pending: the low byte is NACKed
and the field unchanged (R138, R162). -/
def State.writeStaged (s : State) (hi lo : Byte) : State :=
  match stagedRegisterAt s.mnt.pointer with
  | none => s
  | some r =>
    if s.cfg.pending then s.refuseByte
    else { s with cfg := { s.cfg with staged := r.write (hi ++ lo) s.cfg.staged } }.finishRegisterWrite

/-- STAGED_REGISTER_WRITE (R138): the low byte of a write of a staged register. -/
def execStagedRegisterWrite (lo : Byte) (s : State) : Out :=
  .next (s.beginEvent.lowByte (fun p => (stagedRegisterAt p).isSome) fun hi t => t.writeStaged hi lo)

/-- The snapshot event of the first head record register (R118). -/
def State.takeSnapshot (s : State) : State :=
  if s.mnt.pointer = headRecordAddress then { s with mnt := { s.mnt with snapshot := s.flg.snapshot } } else s

/-- The port begins to send the register at the pointer: the whole value is taken, and the high byte goes first (R163). -/
def State.sendHigh (s : State) : State :=
  let t := s.takeSnapshot
  let v := t.readRegister t.mnt.pointer
  (t.setTransfer (.readLow (lowByteOf v))).signal (.byte (highByte v))

/-- HEAD_RECORD_READ (R118, R119, R163): the port sends the next byte of a read transfer. With the pointer at the first
head record register, the event that begins its high byte takes the snapshot; after a low byte the pointer rises by 1. -/
def execHeadRecordRead (s : State) : Out :=
  let t := s.beginEvent
  .next (match t.mnt.transfer with
    | .readHigh => t.sendHigh
    | .readLow lo => (t.bumpPointer.setTransfer .readHigh).signal (.byte lo)
    | .idle => t
    | .writePointer => t
    | .writeHigh => t
    | .writeLow _ => t
    | .writeIgnored => t)

/-- REGISTER_POINTER_WRITE (R161): the first byte after the address of a write transfer is the new pointer. -/
def execRegisterPointerWrite (b : Byte) (s : State) : Out :=
  let t := s.beginEvent
  .next (match t.mnt.transfer with
    | .writePointer => ({ t with mnt := { t.mnt with pointer := b } }.setTransfer .writeHigh).signal .ack
    | .writeIgnored => t.refuseByte
    | .idle => t
    | .writeHigh => t
    | .writeLow _ => t
    | .readHigh => t
    | .readLow _ => t)

/-- READ_ONLY_REGISTER_WRITE (R162): the high byte of a write to a register that is read-only, absent, or staged while a
commit is pending is NACKed and discarded; so is every further byte of the transfer. -/
def execReadOnlyRegisterWrite (_b : Byte) (s : State) : Out :=
  let t := s.beginEvent
  .next (match t.mnt.transfer with
    | .writeHigh => if t.writableAt t.mnt.pointer then t else t.refuseByte
    | .writeIgnored => t.refuseByte
    | .idle => t
    | .writePointer => t
    | .writeLow _ => t
    | .readHigh => t
    | .readLow _ => t)

/-- START_CONDITION (R161): the device's own address is answered with ACK, in either direction, and begins a new
transfer; a held byte is discarded. Any other address returns the transfer state to idle. While RST_N is asserted no
address is answered. -/
def execStartCondition (address : BitVec 7) (dir : Direction) (s : State) : Out :=
  let t := s.beginEvent
  .next (if !t.pins.rst && address == t.mnt.address then
      match dir with
      | .write => (t.setTransfer .writePointer).signal .ack
      | .read => (t.setTransfer .readHigh).signal .ack
    else t.setTransfer .idle)

/-- STOP_CONDITION (R161): the transfer state returns to idle, a held byte is discarded, the pointer stays. -/
def execStopCondition (s : State) : Out := .next (s.beginEvent.setTransfer .idle)

/-- REGISTER_WRITE_HIGH_BYTE (R162): the high byte of a write to a writable register is acknowledged and held; for a
staged register while a commit is pending it is NACKed and discarded (Table 11-6). -/
def execRegisterWriteHighByte (hi : Byte) (s : State) : Out :=
  let t := s.beginEvent
  .next (match t.mnt.transfer with
    | .writeHigh =>
      if t.writableAt t.mnt.pointer then (t.setTransfer (.writeLow hi)).signal .ack
      else t.refuseByte
    | .writeIgnored => t.refuseByte
    | .idle => t
    | .writePointer => t
    | .writeLow _ => t
    | .readHigh => t
    | .readLow _ => t)

end Sys2Proof.Machine
end

