-- ==== Sys2Proof/Machine/Requests.lean ====
section
/-! DEFINITION. Machine/Requests.lean: WRITE, UNKNOWN_KIND_REQUEST, READ and FENCE (chapters 1, 2, 3 and 11). -/

namespace Sys2Proof.Machine

/-- PQ checks a WRITE that it takes, and answers it (R9 to R12). -/
def State.takeWrite (s : State) (m : Request) : State :=
  if m.mask = 0 then s.answer 0 m (.refuse .malformed)
  else if !s.cfg.active.mapped m.line then s.answer 0 m (.refuse .unmapped)
  else if s.pq.any (coalescesInto m) then (s.coalesce m).answer 0 m .wack
  else if s.occupancy < 16 then (s.append m).answer 0 m .wack
  else s.answer 0 m (.retry .full)

/-- WRITE (R7, R9). -/
def execWrite (m : Request) (s : State) : Out :=
  let t := s.beginEvent
  .next (t.gated t.writeGate 0 m fun u => u.takeWrite m)

/-- UNKNOWN_KIND_REQUEST (R8): answered as a WRITE is up to the first content check, then REFUSE MALFORMED. A kind code
below 3 is no such request (log entry 5). -/
def execUnknownKindRequest (kind : BitVec 3) (m : Request) (s : State) : Out :=
  let t := s.beginEvent
  .next (if namesNoRequest kind then t.gated t.writeGate kind m fun u => u.answer kind m (.refuse .malformed) else t)

/-- RT adds a WAITING record for a READ (R31). -/
def State.addRecord (s : State) (m : Request) : State :=
  { s with rt := s.rt ++ [{ source := m.source, tag := m.tag, line := m.line, state := .waiting }] }

/-- RT checks a READ that it takes, and answers it or adds a record (R28, R30, R31). -/
def State.takeRead (s : State) (m : Request) : State :=
  if s.pairHeld m.source m.tag then s.answer 1 m (.refuse .tagInUse)
  else if !s.cfg.active.mapped m.line then s.answer 1 m (.refuse .unmapped)
  else if queueCover s.pq m.line = BitVec.allOnes 32 then s.answer 1 m (.rdata (queueMerge s.pq m.line 0) 0)
  else if s.rt.length < 8 then s.addRecord m
  else s.answer 1 m (.retry .tableFull)

/-- READ (R27, R28). -/
def execRead (m : Request) (s : State) : Out :=
  let t := s.beginEvent
  .next (t.gated t.readGate 1 m fun u => u.takeRead m)

/-- The number of a source's entries in the queue, in either state (R47). -/
def State.entriesOf (s : State) (src : Source) : Nat := s.pq.countP fun e => e.source == src

/-- The fence that a FENCE covering `k` entries makes pending (R47). -/
def newFence (m : Request) (k : Nat) : FenceRow :=
  .pending { tag := m.tag, remaining := k, faulted := false, discarded := false }

/-- The source's row becomes PENDING, and every entry of the source is marked fenced and closed (R47). -/
def State.raiseFence (s : State) (m : Request) : State :=
  { s with
    ft := { s.ft with rows := s.ft.rows.set m.source (newFence m (s.entriesOf m.source)) }
    pq := s.pq.map fun e => if e.source = m.source then { e with fenced := true, isOpen := false } else e }

/-- FT checks a FENCE that it takes, and answers it or makes its row PENDING (R46, R47). -/
def State.takeFence (s : State) (m : Request) : State :=
  if s.pairHeld m.source m.tag then s.answer 2 m (.refuse .tagInUse)
  else if s.ft.rows[m.source].isPending then s.answer 2 m (.refuse .fenceBusy)
  else if s.entriesOf m.source = 0 then s.answer 2 m (.fdone .clean)
  else s.raiseFence m

/-- FENCE (R45, R46). -/
def execFence (m : Request) (s : State) : Out :=
  let t := s.beginEvent
  .next (t.gated t.fenceGate 2 m fun u => u.takeFence m)

end Sys2Proof.Machine
end

