-- ==== Sys2Proof/Machine/Resets.lean ====
section
/-! DEFINITION. Machine/Resets.lean: the resets that reach the device at its pins (chapter 10). -/

namespace Sys2Proof.Machine

/-- POWER_ON_RESET (R148): every block takes its reset values, the array is COLD and its contents undefined (R73), the
reset record shows POWER_ON, and the pins stand as `p` shows them (log entry 8). -/
def execPowerOnReset (p : PowerOnPins) (s : State) : Out :=
  let t := s.beginEvent.resetBlocks p.straps powerOnRecord
  .next { t with
    seq := { cycle := none, condition := .cold }
    pins := { pwarn := p.pwarnAsserted, rst := p.rstAsserted, portReady := false }
    array := []
    powerOns := t.powerOns + 1 }

/-- The level of RST_N becomes `b`. -/
def State.setRst (s : State) (b : Bool) : State := { s with pins := { s.pins with rst := b } }

/-- EXTERNAL_RESET (R148): an assertion of RST_N. While RST_N stays asserted there is no further assertion (log entry 5). -/
def execExternalReset (st : Straps) (s : State) : Out :=
  let t := s.beginEvent
  .next (if t.pins.rst then t else (t.warmReset .external st).setRst true)

/-- RST_N_DEASSERTED (R148): the INIT sequence begins, and the MDC presents its first claim (R152). -/
def execRstDeasserted (s : State) : Out := .next (s.beginEvent.setRst false)

end Sys2Proof.Machine
end

