-- ==== Sys2Proof/Machine/Sequencer.lean ====
section
/-! DEFINITION. Machine/Sequencer.lean: GRANT and the completions of the array cycles (chapters 4, 2, 5, 6, 8 and 10). A
completion whose cycle is not the one in flight cannot occur, and has no effect (log entry 5). -/

namespace Sys2Proof.Machine

/-! ## GRANT -/

/-- PQ takes the grant of its drain claim: the head becomes WRITING and closed, and the cycle kind follows its mask (R16). -/
def State.grantDrain (s : State) : State :=
  match s.pq with
  | [] => s
  | e :: rest =>
    match s.cfg.active.rankOf e.line with
    | none => s
    | some r =>
      let l := s.cfg.active.rankLine r e.line
      { s with pq := e.granted :: rest }.startCycle (if hasPartialWord e.mask then .mergeWrite r l else .plainWrite r l)

/-- The read table with its oldest WAITING record READING (R33). -/
def markReading : List ReadRecord → List ReadRecord
  | [] => []
  | r :: rest => if r.isWaiting then { r with state := .reading } :: rest else r :: markReading rest

/-- RT takes the grant of its read claim: the oldest WAITING record becomes READING (R33). -/
def State.grantRead (s : State) : State :=
  match s.oldestWaiting with
  | none => s
  | some rec =>
    match s.cfg.active.rankOf rec.line with
    | none => s
    | some r => { s with rt := markReading s.rt }.startCycle (.lineRead r (s.cfg.active.rankLine r rec.line))

/-- The claimant takes the grant, and the cycle begins (R60, and the rule of each kind in section 4.5). -/
def State.grantClaim (s : State) : Claim → State
  | .powerUp => s.startCycle .powerUp
  | .selfRefreshEntry => (s.setCondition .selfRefresh).startCycle .selfRefreshEntry
  | .selfRefreshExit => s.startCycle .selfRefreshExit
  | .refresh n => s.startCycle (.refresh n)
  | .drain => s.grantDrain
  | .read => s.grantRead
  | .fill => s.startCycle (.fill s.mdc.fillRank s.mdc.fillLine)
  | .scrub => { s with scr := { s.scr with due := false } }.startCycle (.scrub s.scr.rank s.scr.line)

/-- GRANT (R60 to R62): the idle SEQ grants the first grantable claim. Where none stands there is no grant. -/
def execGrant (s : State) : Out :=
  let t := s.beginEvent
  .next (match t.nextClaim with
    | some c => t.grantClaim c
    | none => t)

/-! ## Completion of the head's array write -/

/-- Whether the MERGE WRITE of an entry finds a PARTIAL word UNCORRECTABLE or POISONED, which sets the faulted mark (R17,
R94). -/
def State.mergeFaults (s : State) (e : Entry) (r : Rank) (l : RankLine) : Bool :=
  s.partialFound e r l .uncorrectable != 0 || s.partialFound e r l .poisoned != 0

/-- The array write of the head `e` completes (R18): its words stand in the array, the CHK reports the PARTIAL words (R95,
R97, R98), the head leaves the queue, and the FT counts its departure with the faulted mark. -/
def State.depart (s : State) (e : Entry) (rest : List Entry) (r : Rank) (l : RankLine) : State :=
  let bad := s.partialFound e r l .uncorrectable
  let t := s.finishWords.faultIf (bad != 0) (.mergeUncorrectable r e.line e.source bad)
  let u := t.addCorrected r (countWords (s.partialFound e r l .corrected))
  { u with pq := rest }.endCycle.report { e with faulted := e.faulted || s.mergeFaults e r l }.departureReport

/-- DEPARTURE (R18): completion of the head's PLAIN WRITE or MERGE WRITE. -/
def execDeparture (s : State) : Out :=
  let t := s.beginEvent
  .next (match t.seq.cycle, t.pq with
    | some (.plainWrite r l), e :: rest => if e.isWriting then t.depart e rest r l else t
    | some (.mergeWrite r l), e :: rest => if e.isWriting then t.depart e rest r l else t
    | _, _ => t)

/-! ## LINE READ completion -/

/-- The poison word set (R36): the words found UNCORRECTABLE or POISONED of which the queue does not supply every byte. -/
def poisonSet (damaged : WordSet) (cover : ByteMask) : WordSet :=
  wordSet fun w => damaged.getLsbD w.val && wordMask cover w != 0xFF

/-- The LINE READ of the READING record completes (R34): merge, poison set, outcomes passed on, RDATA, record removed. -/
def State.finishRead (s : State) (rec : ReadRecord) (r : Rank) (l : RankLine) : State :=
  let bad := s.wordsFound r l .uncorrectable
  let damaged := bad ||| s.wordsFound r l .poisoned
  let data := queueMerge s.pq rec.line (s.handedLine r l)
  let t := s.faultIf (bad != 0) (.readUncorrectable r rec.line rec.source bad)
  let u := t.addCorrected r (countWords (s.wordsFound r l .corrected))
  ({ u with rt := u.rt.filter ReadRecord.isWaiting }.endCycle).send
    (rec.answered (.rdata data (poisonSet damaged (queueCover s.pq rec.line))))

/-- LINE_READ_COMPLETION (R34). -/
def execLineReadCompletion (s : State) : Out :=
  let t := s.beginEvent
  .next (match t.seq.cycle, t.rt.find? (fun x => !x.isWaiting) with
    | some (.lineRead r l), some rec => t.finishRead rec r l
    | _, _ => t)

/-! ## The other completions -/

/-- RFS pays one unit of rank `n`'s debt (R83). -/
def State.payDebt (s : State) (n : Rank) : State :=
  { s with rfs := s.rfs.set n { s.rfs[n] with debt := s.rfs[n].debt - 1 } }

/-- REFRESH_COMPLETION (R83). -/
def execRefreshCompletion (s : State) : Out :=
  let t := s.beginEvent
  .next (match t.seq.cycle with
    | some (.refresh n) => (t.payDebt n).endCycle
    | _ => t)

/-- A SCRUB completes (R104): CORRECTED words written back and counted, UNCORRECTABLE words reported, pointer advanced. -/
def State.finishScrub (s : State) (r : Rank) (l : RankLine) : State :=
  let bad := s.wordsFound r l .uncorrectable
  let t := s.finishWords.faultIf (bad != 0) (.scrubUncorrectable r (s.cfg.active.lineOf r l) bad)
  (t.addCorrected r (countWords (s.wordsFound r l .corrected))).endCycle.advancePointer

/-- SCRUB_COMPLETION (R104). -/
def execScrubCompletion (s : State) : Out :=
  let t := s.beginEvent
  .next (match t.seq.cycle with
    | some (.scrub r l) => t.finishScrub r l
    | _ => t)

/-- The last FILL ends the zero fill: fill complete is set and the mode becomes RUN (R154). -/
def State.endFill (s : State) : State :=
  { s with mdc := { s.mdc with record := { s.mdc.record with fillComplete := true } } }.becomeRun

/-- MDC moves the fill pointer on, or ends the fill (R153). -/
def State.advanceFill (s : State) : State :=
  if s.mdc.fillLine.toNat + 1 < s.cfg.active.ranks[s.mdc.fillRank].size.lines then
    { s with mdc := { s.mdc with fillLine := s.mdc.fillLine + 1 } }
  else match s.cfg.active.nextRank s.mdc.fillRank with
    | some n => { s with mdc := { s.mdc with fillRank := n, fillLine := 0 } }
    | none => s.endFill

/-- FILL_COMPLETION (R153, R72). -/
def execFillCompletion (s : State) : Out :=
  let t := s.beginEvent
  .next (match t.seq.cycle with
    | some (.fill _ _) => t.finishWords.endCycle.advanceFill
    | _ => t)

/-- The first operation of INIT has completed: INIT ends, if this is INIT (R152). -/
def State.afterModeOperation (s : State) : State := if s.mdc.mode = .init then s.endInit else s

/-- POWER_UP_COMPLETION (R73). -/
def execPowerUpCompletion (s : State) : Out :=
  let t := s.beginEvent
  .next (match t.seq.cycle with
    | some .powerUp => (t.endCycle.setCondition .active).afterModeOperation
    | _ => t)

/-- A SELF-REFRESH ENTRY completes (R129): WAITING reads refused, the timers stopped, the mode RETAIN, or RESUME where
PWARN_N is deasserted. -/
def State.finishEntry (s : State) : State :=
  let t := s.endCycle.refuseWaiting.stopHoldup.stopTicks
  t.setMode (if t.pins.pwarn then .retain else .resume)

/-- SELF_REFRESH_ENTRY_COMPLETION (R129). -/
def execSelfRefreshEntryCompletion (s : State) : Out :=
  let t := s.beginEvent
  .next (match t.seq.cycle with
    | some .selfRefreshEntry => t.finishEntry
    | _ => t)

/-- SELF-REFRESH EXIT has completed in RESUME: debts 0, fresh start of the tick timers, and the mode becomes RUN (R132,
R87); in INIT, INIT ends (R152). -/
def State.finishExit (s : State) : State :=
  match s.mdc.mode with
  | .resume => s.clearDebts.startTicks.becomeRun
  | .init => s.endInit
  | .fill => s
  | .run => s
  | .holdup => s
  | .retain => s

/-- SELF_REFRESH_EXIT_COMPLETION (R75). -/
def execSelfRefreshExitCompletion (s : State) : Out :=
  let t := s.beginEvent
  .next (match t.seq.cycle with
    | some .selfRefreshExit => (t.endCycle.setCondition .active).finishExit
    | _ => t)

end Sys2Proof.Machine
end

