-- ==== Sys2Proof/Machine/Timers.lean ====
section
/-! DEFINITION. Machine/Timers.lean: the expiries of the device's own timers (chapters 1, 5, 6 and 8). An expiry of a
timer that is stopped, or before its time, cannot occur, and has no effect (log entries 3 and 5). -/

namespace Sys2Proof.Machine

/-- The age timer of an entry expires: the ripe mark is set, and the timer expires no more (R6). -/
def Entry.ripened (e : Entry) (now : Time) : Entry :=
  if e.timer.due now then { e with ripe := true, timer := .stopped } else e

/-- AGE_TIMER_EXPIRY (R6) of the entry at place `i` of the queue. -/
def execAgeTimerExpiry (i : Fin 16) (s : State) : Out :=
  let t := s.beginEvent
  .next { t with pq := t.pq.modify i.val fun e => e.ripened t.now }

/-- A tick of rank `n` (R80, R81): the debt rises, or at 8 an overrun is reported, and the next tick is placed one
refresh interval after this one, which fell at `at_`. -/
def State.tick (s : State) (n : Rank) (at_ : Time) : State :=
  let next := Timer.running (at_ + s.cfg.active.refreshTime)
  if s.rfs[n].debt < 8 then
    { s with rfs := s.rfs.set n { debt := s.rfs[n].debt + 1, timer := next } }
  else { s with rfs := s.rfs.set n { s.rfs[n] with timer := next } }.fault (.refreshOverrun n)

/-- REFRESH_TICK (R80) of rank `n`. -/
def execRefreshTick (n : Rank) (s : State) : Out :=
  let t := s.beginEvent
  .next (match t.rfs[n].timer with
    | .stopped => t
    | .running d => if d ≤ t.now then t.tick n d else t)

/-- SCRUB_TIMER_EXPIRY (R102): the due flag is set, and the next expiry is placed one scrub interval later. -/
def execScrubTimerExpiry (s : State) : Out :=
  let t := s.beginEvent
  .next (match t.scr.timer with
    | .stopped => t
    | .running d =>
      if d ≤ t.now then
        { t with scr := { t.scr with due := true, timer := .running (d + t.cfg.active.scrubTime) } }
      else t)

/-- The number of QUEUED entries, which an expiry discards (R19). -/
def State.queuedCount (s : State) : Nat := s.pq.countP fun e => !e.isWriting

/-- The hold-up timer expires (R127): QUEUED entries discarded and counted by the FT, WAITING reads refused, the loss
logged, the timer stopped. -/
def State.expireHoldup (s : State) : State :=
  let t := s.discardQueued.refuseWaiting
  (t.faultIf (s.queuedCount != 0) (.holdupDiscard s.queuedCount)).stopHoldup

/-- HOLDUP_EXPIRY (R127). -/
def execHoldupExpiry (s : State) : Out :=
  let t := s.beginEvent
  .next (if t.mdc.holdupTimer.due t.now then t.expireHoldup else t)

end Sys2Proof.Machine
end

