-- ==== Sys2Proof/Machine/Dispatch.lean ====
section
/-! DEFINITION. Machine/Dispatch.lean: one arm per command, each a direct call of its meaning. -/

namespace Sys2Proof.Machine

def exec (i : Instr) (s : State) : Host.Outcome State Fault Refusal :=
  match i with
  | .write m => Sys2Proof.Machine.execWrite m s
  | .unknownKindRequest kind m => Sys2Proof.Machine.execUnknownKindRequest kind m s
  | .read m => Sys2Proof.Machine.execRead m s
  | .fence m => Sys2Proof.Machine.execFence m s
  | .grant => Sys2Proof.Machine.execGrant s
  | .departure => Sys2Proof.Machine.execDeparture s
  | .lineReadCompletion => Sys2Proof.Machine.execLineReadCompletion s
  | .refreshCompletion => Sys2Proof.Machine.execRefreshCompletion s
  | .scrubCompletion => Sys2Proof.Machine.execScrubCompletion s
  | .fillCompletion => Sys2Proof.Machine.execFillCompletion s
  | .powerUpCompletion => Sys2Proof.Machine.execPowerUpCompletion s
  | .selfRefreshEntryCompletion => Sys2Proof.Machine.execSelfRefreshEntryCompletion s
  | .selfRefreshExitCompletion => Sys2Proof.Machine.execSelfRefreshExitCompletion s
  | .ageTimerExpiry place => Sys2Proof.Machine.execAgeTimerExpiry place s
  | .refreshTick n => Sys2Proof.Machine.execRefreshTick n s
  | .scrubTimerExpiry => Sys2Proof.Machine.execScrubTimerExpiry s
  | .holdupExpiry => Sys2Proof.Machine.execHoldupExpiry s
  | .pwarnAsserted => Sys2Proof.Machine.execPwarnAsserted s
  | .pwarnDeasserted => Sys2Proof.Machine.execPwarnDeasserted s
  | .quietPointApplication => Sys2Proof.Machine.execQuietPointApplication s
  | .powerOnReset p => Sys2Proof.Machine.execPowerOnReset p s
  | .externalReset st => Sys2Proof.Machine.execExternalReset st s
  | .rstDeasserted => Sys2Proof.Machine.execRstDeasserted s
  | .flush lo => Sys2Proof.Machine.execFlush lo s
  | .popLog lo => Sys2Proof.Machine.execPopLog lo s
  | .clearOverflow lo => Sys2Proof.Machine.execClearOverflow lo s
  | .clearCorrected lo => Sys2Proof.Machine.execClearCorrected lo s
  | .commit lo => Sys2Proof.Machine.execCommit lo s
  | .abortCommit lo => Sys2Proof.Machine.execAbortCommit lo s
  | .reset lo st => Sys2Proof.Machine.execReset lo st s
  | .unknownCommand lo => Sys2Proof.Machine.execUnknownCommand lo s
  | .faultEnableWrite lo => Sys2Proof.Machine.execFaultEnableWrite lo s
  | .stagedRegisterWrite lo => Sys2Proof.Machine.execStagedRegisterWrite lo s
  | .headRecordRead => Sys2Proof.Machine.execHeadRecordRead s
  | .registerPointerWrite b => Sys2Proof.Machine.execRegisterPointerWrite b s
  | .readOnlyRegisterWrite b => Sys2Proof.Machine.execReadOnlyRegisterWrite b s
  | .storedBitFlip r l w b => Sys2Proof.Machine.execStoredBitFlip r l w b s
  | .startCondition address dir => Sys2Proof.Machine.execStartCondition address dir s
  | .stopCondition => Sys2Proof.Machine.execStopCondition s
  | .registerWriteHighByte hi => Sys2Proof.Machine.execRegisterWriteHighByte hi s

end Sys2Proof.Machine
end

