-- ==== Sys2Proof/Machine/Idle.lean ====
section
/-! DEFINITION. Machine/Idle.lean: what happens when no command waits (log entries 3 and 18). -/

namespace Sys2Proof.Machine

/-- With no command waiting the block idles: nothing is sent, and device time goes on by 0.1 µs, unless some timer's
expiry has come, which must be taken at its time (DESIGN CHOICE, log entry 3). A grantable claim on an idle SEQ, a cycle in
flight and a commit at its quiet point hold no time back: R60 says only that such a claim is eventually taken up, and the
spec gives no time for any of the three (DESIGN CHOICE, log entry 18). -/
def State.idleTick (s : State) : State :=
  let t := s.beginEvent
  if t.someTimerDue then t else { t with now := t.now + 1 }

end Sys2Proof.Machine
end

