-- ==== Sys2Proof/Safety.lean ====
section
/-! DEFINITION. Safety.lean: the sound states of the TW412, in the terms that claims use: the statements that the spec
makes about the whole machine at every moment. No state outside them is reached from reset. -/

namespace Sys2Proof.Machine

/-- The head of the queue is the subject of an array write in flight (R16, R66, Table 4-1): it is WRITING, its line
decodes to the cycle's rank and rank line, and it has a PARTIAL word exactly if the cycle is a MERGE WRITE. -/
abbrev HeadWritten (s : State) (r : Rank) (l : RankLine) (merge : Bool) : Prop :=
  ∃ e ∈ s.pq.head?, e.state = .writing ∧ s.cfg.active.rankOf e.line = some r ∧
    s.cfg.active.rankLine r e.line = l ∧ hasPartialWord e.mask = merge

/-- The WRITING entry and the array write in flight stand and fall together (R3, R16). -/
abbrev WriteInFlight (s : State) : Prop :=
  match s.seq.cycle with
  | some (.plainWrite r l) => HeadWritten s r l false
  | some (.mergeWrite r l) => HeadWritten s r l true
  | _ => ∀ e ∈ s.pq, e.state = .queued

/-- The posting queue (R1, R2, R3, R4, R66): at most 16 entries; each mask non-empty, no byte held outside it, the line
mapped; an open entry is QUEUED, neither fenced nor flushed, and the youngest of its source; only the head is ever
WRITING, and it is exactly while its array write is in flight. -/
abbrev QueueSound (s : State) : Prop :=
  s.pq.length ≤ 16 ∧
  (∀ e ∈ s.pq, e.mask ≠ 0 ∧ e.data &&& ~~~maskBits e.mask = 0 ∧ s.cfg.active.mapped e.line = true) ∧
  (∀ e ∈ s.pq, e.isOpen = true → e.state = .queued ∧ e.fenced = false ∧ e.flushed = false) ∧
  s.pq.Pairwise (fun older younger => older.source = younger.source → older.isOpen = false) ∧
  (∀ e ∈ s.pq.tail, e.state = .queued) ∧
  WriteInFlight s

/-- The number of entries of a source that are marked fenced (R47). -/
def State.fencedOf (s : State) (src : Source) : Nat := s.pq.countP fun e => e.source == src && e.fenced

/-- The number of entries marked flushed (R53). -/
def State.flushedCount (s : State) : Nat := s.pq.countP fun e => e.flushed

/-- One fence row (R44, R47): a PENDING row's remaining count is the number of its source's fenced entries, at least 1;
a FREE row's source has none. -/
abbrev RowSound (row : FenceRow) (fenced : Nat) : Prop :=
  match row with
  | .free => fenced = 0
  | .pending f => f.remaining = fenced ∧ 1 ≤ fenced

/-- The fence rows and the flush (R44, R47, R53): the flush's remaining count is the number of flushed entries, and it is
ACTIVE exactly while there is one. -/
abbrev FenceSound (s : State) : Prop :=
  (∀ src : Source, RowSound s.ft.rows[src] (s.fencedOf src)) ∧
  s.ft.flush.remaining = s.flushedCount ∧ s.ft.flush.active = decide (1 ≤ s.flushedCount)

/-- The READING record and the LINE READ in flight stand and fall together (R26, R33): the record is the oldest, and its
line decodes to the cycle's rank and rank line. -/
abbrev ReadInFlight (s : State) : Prop :=
  match s.seq.cycle with
  | some (.lineRead r l) =>
    ∃ x ∈ s.rt.head?, x.state = .reading ∧ s.cfg.active.rankOf x.line = some r ∧ s.cfg.active.rankLine r x.line = l
  | _ => ∀ x ∈ s.rt, x.state = .waiting

/-- The read table (R25, R26, R29, R66): at most 8 records; no two outstanding reads or fences with the same source and
tag; every line mapped; only the oldest record is ever READING, and it is exactly while its LINE READ is in flight. -/
abbrev ReadTableSound (s : State) : Prop :=
  s.rt.length ≤ 8 ∧
  s.rt.Pairwise (fun a b => ¬(a.source = b.source ∧ a.tag = b.tag)) ∧
  (∀ x ∈ s.rt, s.ft.rows[x.source].holdsTag x.tag = false ∧ s.cfg.active.mapped x.line = true) ∧
  (∀ x ∈ s.rt.tail, x.state = .waiting) ∧
  ReadInFlight s

/-- The fault log and FAULT_N (R109, R115): at most 8 records; the line is asserted exactly while a record is of a kind in
the mask. -/
abbrev LogSound (s : State) : Prop :=
  s.flg.records.length ≤ 8 ∧ s.flg.line = someEnabled s.flg.mask s.flg.records

/-- The ranks' memory has its canonical form (log entry 9). -/
abbrev ArraySound (s : State) : Prop := Memory.wf s.array = true

/-- The expiry of a timer, if it runs, has not passed. -/
abbrev TimerAhead (t : Timer) (now : Time) : Prop :=
  match t with
  | .stopped => True
  | .running d => now ≤ d

/-- No timer of the device has missed its expiry (log entry 3). -/
abbrev TimersAhead (s : State) : Prop :=
  (∀ e ∈ s.pq, TimerAhead e.timer s.now) ∧ (∀ n : Rank, TimerAhead s.rfs[n].timer s.now) ∧
  TimerAhead s.scr.timer s.now ∧ TimerAhead s.mdc.holdupTimer s.now

/-- The configuration (R135, R138, R140): the active set passes the commit check, and so does the staged set while a
commit is pending. -/
abbrev ConfigSound (s : State) : Prop :=
  commitCheck s.cfg.active = none ∧ (s.cfg.pending = true → commitCheck s.cfg.staged = none)

/-- The modes in which the tick timers run (R79). -/
def Mode.ticks : Mode → Bool
  | .fill => true
  | .run => true
  | .holdup => true
  | .init => false
  | .retain => false
  | .resume => false

/-- The modes that the device reaches only with every enabled rank filled since power-on (R154). -/
def Mode.filled : Mode → Bool
  | .run => true
  | .holdup => true
  | .retain => true
  | .resume => true
  | .init => false
  | .fill => false

/-- The modes in which requesters' work may be held (R15, R32, R131). -/
def Mode.works : Mode → Bool
  | .run => true
  | .holdup => true
  | .init => false
  | .fill => false
  | .retain => false
  | .resume => false

/-- Whether a timer is running. -/
def Timer.isRunning : Timer → Bool
  | .stopped => false
  | .running _ => true

/-- The modes in which a cycle may be in flight. -/
abbrev CycleInMode (c : Cycle) (m : Mode) : Prop :=
  match c with
  | .lineRead _ _ => m.works = true
  | .plainWrite _ _ => m.works = true
  | .mergeWrite _ _ => m.works = true
  | .refresh _ => m.ticks = true
  | .scrub _ _ => m.works = true
  | .fill _ _ => m = .fill
  | .powerUp => m = .init
  | .selfRefreshEntry => m = .holdup
  | .selfRefreshExit => m = .init ∨ m = .resume

/-- The array condition by mode and cycle (R59, R74, R75, Table 8-4). -/
abbrev ConditionInMode (s : State) : Prop :=
  match s.mdc.mode with
  | .init => s.seq.cycle = some .powerUp → s.seq.condition ≠ .selfRefresh
  | .fill => s.seq.condition = .active
  | .run => s.seq.condition = .active
  | .holdup => s.seq.condition = if s.seq.cycle = some .selfRefreshEntry then .selfRefresh else .active
  | .retain => s.seq.condition = .selfRefresh
  | .resume => s.seq.condition = .selfRefresh

/-- The mode and what it governs: PORT_READY (R158); RST_N (R148); PWARN_N (R122, R133); fill complete (R154); the array
condition and the cycle in flight; the work held (R131); the timers (R79, R102, R124); the commit state (R141). -/
abbrev ModeSound (s : State) : Prop :=
  s.pins.portReady = decide (s.mdc.mode ≠ .init) ∧
  (s.pins.rst = true → s.mdc.mode = .init ∧ s.seq.cycle = none ∧ s.mnt.transfer = .idle) ∧
  (s.mdc.mode = .run → s.pins.pwarn = false) ∧
  (s.mdc.mode = .retain → s.pins.pwarn = true) ∧
  (s.mdc.mode = .holdup → s.seq.cycle ≠ some .selfRefreshEntry → s.pins.pwarn = true) ∧
  (s.mdc.mode.filled = true → s.mdc.record.fillComplete = true) ∧
  (∀ c, s.seq.cycle = some c → CycleInMode c s.mdc.mode) ∧
  ConditionInMode s ∧
  (s.mdc.mode.works = false → s.pq = [] ∧ s.rt = [] ∧ s.rowsFree = true) ∧
  (s.seq.cycle = some .selfRefreshEntry → s.pq = [] ∧ s.rowsFree = true ∧ ∀ r ∈ s.rt, r.state = .waiting) ∧
  (∀ n : Rank, s.rfs[n].timer.isRunning = (s.cfg.active.ranks[n].enable && s.mdc.mode.ticks)) ∧
  (s.scr.timer.isRunning = (s.cfg.active.scrubEnable && s.mdc.mode == .run)) ∧
  (s.scr.due = true → s.cfg.active.scrubEnable = true ∧ s.mdc.mode = .run) ∧
  (s.mdc.holdupTimer.isRunning = true → s.mdc.mode = .holdup) ∧
  (s.cfg.pending = true ↔ s.cfg.outcome = .accepted) ∧
  (s.cfg.pending = true → s.mdc.mode = .run)

/-- A pointer names a line of an enabled rank of the active set (R101). -/
abbrev PointerSound (c : Settings) (r : Rank) (l : RankLine) : Prop :=
  c.ranks[r].enable = true ∧ l.toNat < c.ranks[r].size.lines

/-- The ranks (R78, R97, R101, R70, R153): debts at most 8; a disabled rank owes nothing and counts nothing; a cycle works
on an enabled rank; a REFRESH in flight is owed; the scrub pointer, and in FILL the fill pointer, name a line of an enabled
rank. -/
abbrev RanksSound (s : State) : Prop :=
  (∀ n : Rank, s.rfs[n].debt ≤ 8) ∧
  (∀ n : Rank, s.cfg.active.ranks[n].enable = false → s.rfs[n].debt = 0 ∧ s.chk[n] = 0) ∧
  (∀ n : Rank, s.seq.cycle.bind Cycle.rank = some n → s.cfg.active.ranks[n].enable = true) ∧
  (∀ n : Rank, s.seq.cycle = some (.refresh n) → 1 ≤ s.rfs[n].debt) ∧
  PointerSound s.cfg.active s.scr.rank s.scr.line ∧
  (s.mdc.mode = .fill → PointerSound s.cfg.active s.mdc.fillRank s.mdc.fillLine)

/-- A state in which every part is sound. -/
abbrev Sound (s : State) : Prop :=
  QueueSound s ∧ FenceSound s ∧ ReadTableSound s ∧ LogSound s ∧ ArraySound s ∧ TimersAhead s ∧ ConfigSound s ∧
    ModeSound s ∧ RanksSound s

/-! ## Terms of the statements -/

/-- `s` with these responses and these signals on SDA as all that its last event sent, and nothing else changed. -/
def State.sending (s : State) (rs : List Response) (sg : List SdaSignal) : State := { s with rsp := rs, sda := sg }

/-- The response that answers a request of kind code `k` (R160). -/
def responseTo (k : BitVec 3) (m : Request) (a : Answer) : Response :=
  { kind := k, source := m.source, tag := m.tag, answer := a }

/-- Byte p of a line (Table 11-3). -/
def lineByte (d : LineData) (p : Nat) : Byte := d.extractLsb' (8 * p) 8

/-- Byte p of a word. -/
def wordByte (d : Word) (p : Nat) : Byte := d.extractLsb' (8 * p) 8

/-- Entry `e` holds byte `p` of a line. -/
def Entry.holdsByte (e : Entry) (line : LineAddr) (p : Nat) : Prop := e.line = line ∧ e.mask.getLsbD p = true

/-- `e` is the youngest entry of a queue that holds byte `p` of a line. -/
def YoungestHolding (q : List Entry) (line : LineAddr) (p : Nat) (e : Entry) : Prop :=
  ∃ older younger, q = older ++ e :: younger ∧ e.holdsByte line p ∧ ∀ y ∈ younger, ¬y.holdsByte line p

/-- The bytes that a read of a line that decodes to rank `n`, answered now, would carry (R39): the youngest entry's byte
at each position, elsewhere the array's as the CHK hands it on. -/
def State.readView (s : State) (line : LineAddr) (n : Rank) : LineData :=
  queueMerge s.pq line (s.handedLine n (s.cfg.active.rankLine n line))

/-- A (source, tag) pair is held, by an outstanding read or by the pending fence of its source (R29). -/
abbrev PairHeld (s : State) (src : Source) (t : Tag) : Prop :=
  (∃ x ∈ s.rt, x.source = src ∧ x.tag = t) ∨ ∃ f, s.ft.rows[src] = .pending f ∧ f.tag = t

/-- The command by which a cycle completes (R63). -/
def Cycle.completion : Cycle → Instr
  | .lineRead _ _ => .lineReadCompletion
  | .plainWrite _ _ => .departure
  | .mergeWrite _ _ => .departure
  | .refresh _ => .refreshCompletion
  | .scrub _ _ => .scrubCompletion
  | .fill _ _ => .fillCompletion
  | .powerUp => .powerUpCompletion
  | .selfRefreshEntry => .selfRefreshEntryCompletion
  | .selfRefreshExit => .selfRefreshExitCompletion

/-- Every fence row is FREE. -/
abbrev RowsFree (s : State) : Prop := ∀ src : Source, s.ft.rows[src] = .free

/-- No WAITING record. -/
abbrev NoneWaiting (s : State) : Prop := ∀ x ∈ s.rt, x.state = .reading

/-- Drain is pressing (R14). -/
abbrev Pressing (s : State) : Prop :=
  s.cfg.active.highMark.toNat ≤ s.pq.length ∨ (∃ src : Source, s.ft.rows[src] ≠ .free) ∨ s.ft.flush.active = true ∨
    s.cfg.pending = true ∨ s.mdc.mode = .holdup

/-- The threshold is reached, or the head is ripe: drain is due if it is not pressing (R14). -/
abbrev ThresholdOrRipe (s : State) : Prop :=
  s.cfg.active.drainThreshold.toNat ≤ s.pq.length ∨ ∃ e ∈ s.pq.head?, e.ripe = true

/-- No pressing drain claim stands (R14, R15). -/
abbrev NoPressingDrain (s : State) : Prop := ∀ e ∈ s.pq.head?, e.state = .writing ∨ ¬Pressing s

/-- No drain claim stands (R14, R15). -/
abbrev NoDrain (s : State) : Prop := ∀ e ∈ s.pq.head?, e.state = .writing ∨ ¬Pressing s ∧ ¬ThresholdOrRipe s

/-- The SEQ is idle on an ACTIVE array out of reset, and the MDC presents no claim of row 1 (R61, R62, R126). -/
abbrev WorkGrantable (s : State) : Prop :=
  s.seq = { cycle := none, condition := .active } ∧ s.pins.rst = false ∧
  (s.mdc.mode = .fill ∨ s.mdc.mode = .run ∨ s.mdc.mode = .holdup ∧ ¬(s.pq = [] ∧ s.rt = [] ∧ RowsFree s))

/-- Rank `n` owes refresh, and is urgent (R82). -/
abbrev UrgentRank (s : State) (n : Rank) : Prop :=
  1 ≤ s.rfs[n].debt ∧ s.cfg.active.urgentLevel.toNat ≤ s.rfs[n].debt

/-- The tie rule of a refresh row puts rank `n` before rank `m` (Table 4-3), or `m` is `n`. -/
abbrev RefreshBefore (s : State) (n m : Rank) : Prop :=
  s.rfs[m].debt < s.rfs[n].debt ∨ s.rfs[m].debt = s.rfs[n].debt ∧ n ≤ m

/-- Every byte of the word is in the mask (00_scope 5.3). -/
abbrev FullWord (m : ByteMask) (w : Fin 4) : Prop := ∀ p < 8, m.getLsbD (8 * w.val + p) = true

/-- No byte of the word is in the mask (00_scope 5.3). -/
abbrev NoneWord (m : ByteMask) (w : Fin 4) : Prop := ∀ p < 8, m.getLsbD (8 * w.val + p) = false

/-- One to seven bytes of the word are in the mask (00_scope 5.3). -/
abbrev PartialWord (m : ByteMask) (w : Fin 4) : Prop := ¬FullWord m w ∧ ¬NoneWord m w

/-- The array write of the head `e` is in flight, at rank line `l` of rank `r` (R16). -/
abbrev WritingHead (s : State) (e : Entry) (rest : List Entry) (r : Rank) (l : RankLine) : Prop :=
  s.pq = e :: rest ∧ e.state = .writing ∧
    (s.seq.cycle = some (.plainWrite r l) ∨ s.seq.cycle = some (.mergeWrite r l))

/-- The LINE READ of the oldest record `x` is in flight, at rank line `l` of rank `r` (R33). -/
abbrev ReadingRecord (s : State) (x : ReadRecord) (rest : List ReadRecord) (r : Rank) (l : RankLine) : Prop :=
  s.rt = x :: rest ∧ x.state = .reading ∧ (∀ y ∈ rest, y.state = .waiting) ∧ s.seq.cycle = some (.lineRead r l)

/-- The array write of `e` finds word `w` PARTIAL, with outcome `o`. -/
abbrev MergeFinds (s : State) (e : Entry) (r : Rank) (l : RankLine) (o : WordOutcome) (w : Fin 4) : Prop :=
  PartialWord e.mask w ∧ (s.word r l w).outcome = o

/-- The set `x` is the set of the words for which `p` holds. -/
abbrev IsWordSet (x : WordSet) (p : Fin 4 → Prop) : Prop := ∀ w : Fin 4, x.getLsbD w.val = true ↔ p w

/-- The log after a completion that found the words `bad` UNCORRECTABLE, which send `e`, and that carried rank `r`'s
corrected count from `before` to `after`: the word fault first, then the limit (R98, R112). -/
def logAfter (s : State) (bad : WordSet) (e : FaultEvent) (r : Rank) (before after : Nat) : FaultLog :=
  let f := if bad = 0 then s.flg else s.flg.take e
  let limit := s.cfg.active.correctedThreshold
  if before < limit.toNat ∧ limit.toNat ≤ after then f.take (.correctedLimit r limit) else f

/-- A word as the CHK writes it with a fresh code (R91). -/
def freshWord (d : Word) : StoredWord := { stored := d, written := d, code := .fresh, codeFlips := [] }

/-- Rank `m` is the next enabled rank above rank `n`. -/
abbrev NextEnabled (c : Settings) (n m : Rank) : Prop :=
  n < m ∧ c.ranks[m].enable = true ∧ ∀ k : Rank, n < k → k < m → c.ranks[k].enable = false

/-- Rank `n` is the lowest-numbered enabled rank. -/
abbrev LowestEnabled (c : Settings) (n : Rank) : Prop :=
  c.ranks[n].enable = true ∧ ∀ k : Rank, k < n → c.ranks[k].enable = false

/-- Rank `n` is unchanged from one set to another (R144). -/
abbrev UnchangedRank (old new : Settings) (n : Rank) : Prop :=
  old.ranks[n].enable = true ∧ new.ranks[n].enable = true ∧ old.ranks[n].base = new.ranks[n].base ∧
    old.ranks[n].size = new.ranks[n].size

/-- A timer that starts afresh if `on`, to expire `interval` from now, and is stopped otherwise. -/
def State.freshTimer (s : State) (on : Bool) (interval : Time) : Timer :=
  if on then .running (s.now + interval) else .stopped

/-- The scrubber with its timer as the mode's becoming RUN leaves it: a fresh start if scrub is enabled (Table 6-6). -/
def State.scrubStarted (s : State) : Scrubber :=
  if s.cfg.active.scrubEnable then { s.scr with timer := .running (s.now + 10 * s.cfg.active.scrubInterval.toNat), due := false }
  else s.scr

/-- The scrubber as an entry to HOLDUP leaves it: the timer stopped, the due flag no (R123). -/
def State.scrubStopped (s : State) : Scrubber := { s.scr with timer := .stopped, due := false }

/-- The mode controller as an entry to HOLDUP leaves it: the hold-up timer started (R123, R124). -/
def State.holdupEntered (s : State) : ModeController :=
  { s.mdc with mode := .holdup, holdupTimer := .running (s.now + 100 * s.cfg.active.holdupTime.toNat) }

/-- A write of the command register awaits its low byte, with `hi` held (R162, Table 11-8). -/
abbrev CommandAwaited (s : State) (hi : Byte) : Prop := s.mnt.transfer = .writeLow hi ∧ s.mnt.pointer = 0x08

/-- `s` as the completion of a command write leaves the maintenance port: the byte acknowledged, the pointer past the
command register, the result in the result register (R162, R164). -/
def State.commandDone (s : State) (code : BitVec 4) (r : ResultCode) : State :=
  { s.sending [] [.ack] with
    mnt := { s.mnt with pointer := 0x09, transfer := .writeHigh, result := { result := r, command := code } } }

/-- The low byte of a register write has been taken and acknowledged: the pointer rises by 1 (R162). -/
def State.registerWritten (s : State) : State :=
  { s.sending [] [.ack] with mnt := { s.mnt with pointer := s.mnt.pointer + 1, transfer := .writeHigh } }

/-- A byte of a write transfer has been refused: NACK, and the rest of the transfer is ignored (R162). -/
def State.byteRefused (s : State) : State :=
  { s.sending [] [.nack] with mnt := { s.mnt with transfer := .writeIgnored } }

/-- The number of QUEUED entries of a source that are marked fenced. -/
def State.fencedQueued (s : State) (src : Source) : Nat :=
  s.pq.countP fun e => e.source == src && e.fenced && e.state == .queued

/-- The number of QUEUED entries that are marked flushed. -/
def State.flushedQueued (s : State) : Nat := s.pq.countP fun e => e.flushed && e.state == .queued

/-- The refusals of the WAITING records, in arrival order (R41, R129). -/
def State.refusals (s : State) : List Response :=
  (s.rt.filter fun x => x.state == .waiting).map fun x =>
    { kind := 1, source := x.source, tag := x.tag, answer := .refuse .halted }

/-- The tests of the commit check, by reason, in the order of Table 9-3. -/
def commitTests : List CommitReason :=
  [.align, .space, .overlap, .noRank, .marks, .refresh, .urgent, .holdup, .scrub]

/-- The test of Table 9-3 with a reason passes. NOT_RUNNING is the reason of no test (R139). -/
abbrev TestPasses (c : Settings) (r : CommitReason) : Prop :=
  match r with
  | .align => ∀ n : Rank, c.ranks[n].enable = true → c.ranks[n].size.lines ∣ c.ranks[n].base.toNat
  | .space => ∀ n : Rank, c.ranks[n].enable = true → c.ranks[n].base.toNat + c.ranks[n].size.lines ≤ 134217728
  | .overlap => ∀ n m : Rank, n ≠ m → c.ranks[n].enable = true → c.ranks[m].enable = true → ∀ line : Nat,
      ¬((c.ranks[n].base.toNat ≤ line ∧ line < c.ranks[n].base.toNat + c.ranks[n].size.lines) ∧
        (c.ranks[m].base.toNat ≤ line ∧ line < c.ranks[m].base.toNat + c.ranks[m].size.lines))
  | .noRank => ∃ n : Rank, c.ranks[n].enable = true
  | .marks => 1 ≤ c.drainThreshold.toNat ∧ c.drainThreshold.toNat ≤ 16 ∧ 2 ≤ c.highMark.toNat ∧ c.highMark.toNat ≤ 16 ∧
      c.drainThreshold.toNat ≤ c.highMark.toNat
  | .refresh => 10 ≤ c.refreshInterval.toNat ∧ c.refreshInterval.toNat ≤ 156
  | .urgent => 2 ≤ c.urgentLevel.toNat ∧ c.urgentLevel.toNat ≤ 8
  | .holdup => c.holdupTime.toNat ≠ 0
  | .scrub => c.scrubInterval.toNat ≠ 0 ∧ c.correctedThreshold.toNat ≠ 0
  | .notRunning => True

/-- The addresses of the staged registers (Table 11-8): 0x30+4n to 0x32+4n for each rank n, and 0x40 to 0x46. -/
abbrev StagedAddress (a : BitVec 8) : Prop :=
  (∃ n : Rank, 0x30 + 4 * n.val ≤ a.toNat ∧ a.toNat ≤ 0x32 + 4 * n.val) ∨ 0x40 ≤ a.toNat ∧ a.toNat ≤ 0x46

/-- The addresses of the read-only registers (RO in Table 11-8), the active mirror among them. -/
abbrev ReadOnlyAddress (a : BitVec 8) : Prop :=
  a.toNat ≤ 0x02 ∨ 0x04 ≤ a.toNat ∧ a.toNat ≤ 0x07 ∨ a.toNat = 0x09 ∨ 0x0B ≤ a.toNat ∧ a.toNat ≤ 0x10 ∨ a.toNat = 0x14 ∨
  0x18 ≤ a.toNat ∧ a.toNat ≤ 0x22 ∨ a.toNat = 0x24 ∨ a.toNat = 0x25 ∨
  (∃ n : Rank, 0x70 + 4 * n.val ≤ a.toNat ∧ a.toNat ≤ 0x72 + 4 * n.val) ∨ 0x80 ≤ a.toNat ∧ a.toNat ≤ 0x86

/-- The addresses that hold no register: those not listed in Table 11-8, 0x33+4n and its mirror among them (R165). -/
abbrev AbsentAddress (a : BitVec 8) : Prop :=
  a.toNat = 0x03 ∨ 0x11 ≤ a.toNat ∧ a.toNat ≤ 0x13 ∨ 0x15 ≤ a.toNat ∧ a.toNat ≤ 0x17 ∨ a.toNat = 0x23 ∨
  0x26 ≤ a.toNat ∧ a.toNat ≤ 0x2F ∨ (∃ n : Rank, a.toNat = 0x33 + 4 * n.val) ∨ 0x47 ≤ a.toNat ∧ a.toNat ≤ 0x6F ∨
  (∃ n : Rank, a.toNat = 0x73 + 4 * n.val) ∨ 0x87 ≤ a.toNat

/-- One bit as a number. -/
def bitOf (b : Bool) : Nat := if b then 1 else 0

/-- The values that every reset leaves, with the straps `st` sampled at it (R20, R43, R57, R76, R90, R100, R108, R120,
R134, R137, R147, R148, R157, R166). -/
abbrev ResetValues (t : State) (st : Straps) : Prop :=
  t.mdc.mode = .init ∧ t.mdc.holdupTimer = .stopped ∧ t.mdc.fillRank = 0 ∧ t.mdc.fillLine = 0 ∧
  t.seq.cycle = none ∧ t.pins.portReady = false ∧ t.pq = [] ∧ t.rt = [] ∧ RowsFree t ∧
  t.ft.flush = { active := false, remaining := 0, complete := false } ∧
  (∀ n : Rank, t.rfs[n] = { debt := 0, timer := .stopped }) ∧ (∀ n : Rank, t.chk[n] = 0) ∧
  t.scr = { rank := 0, line := 0, passCount := 0, timer := .stopped, due := false } ∧
  t.flg = { records := [], next := 0, overflow := false, mask := 0, line := false } ∧
  (∀ n : Rank, t.cfg.active.ranks[n].enable = decide (n.val ≤ st.ranks.toNat) ∧
    t.cfg.active.ranks[n].size.lines = 4194304 * 2 ^ st.size.toNat ∧
    t.cfg.active.ranks[n].base.toNat = n.val * (4194304 * 2 ^ st.size.toNat)) ∧
  t.cfg.active.refreshInterval = 78 ∧ t.cfg.active.urgentLevel = 6 ∧ t.cfg.active.highMark = 12 ∧
  t.cfg.active.drainThreshold = 4 ∧ t.cfg.active.ageLimit = 20 ∧ t.cfg.active.scrubEnable = false ∧
  t.cfg.active.scrubInterval = 1000 ∧ t.cfg.active.correctedThreshold = 16 ∧ t.cfg.active.holdupTime = 50 ∧
  t.cfg.staged = t.cfg.active ∧ t.cfg.pending = false ∧ t.cfg.outcome = .none ∧
  t.mnt.address.toNat = 0x5C + st.maddr.toNat ∧ t.mnt.pointer = 0 ∧ t.mnt.transfer = .idle ∧
  t.mnt.result = { result := .none, command := 0 } ∧ t.mnt.snapshot = emptySnapshot

/-- The reset record that an external or maintenance reset of cause `c` leaves (Table 10-2). -/
def State.recordOf (s : State) (c : ResetCause) : ResetRecord :=
  { cause := c, modeAtReset := some s.mdc.mode, discarded := s.pq.length
    writeCut := s.pq.any fun e => e.state == .writing, fillComplete := s.mdc.record.fillComplete }

end Sys2Proof.Machine
end

