-- ==== Sys2Proof/Certificates/Slice0/Obligations.lean ====
section
/-! DEFINITION. Certificates/Slice0/Obligations.lean: the statements for the provers. `s.sending rs sg` is `s` with `rs`
and `sg` as all that the event sent on the RSP lines and on SDA. -/

open Sys2Proof Sys2Proof.Machine

/-! ## The step, reset, and what every state keeps -/

/-- One step takes the command at the front of the queue and executes it on the queue's rest. -/
def Obligations.StepTakesFrontCommand : Prop :=
  ∀ (c : Instr) (s : State), step { s with pending := c :: s.pending } = exec c s

/-- With no command waiting the block idles: device time goes on by 0.1 µs unless an expiry is due (DESIGN CHOICE, log
entry 3), also while a grantable claim stands (DESIGN CHOICE, log entry 18). -/
def Obligations.IdleStepPassesTime : Prop :=
  ∀ s : State, s.pending = [] →
    (s.someTimerDue = false → step s = .next { s.sending [] [] with now := s.now + 1 }) ∧
    (s.someTimerDue = true → step s = .next (s.sending [] []))

/-- What a power-on reset leaves, of the values that the spec gives (R20, R43, R57, R76, R90, R100, R108, R120, R134,
R147, R150, R166). The fill pointer (R153) and the fields of the snapshot buffer beside its present mark (R120) are
left to ResetsLeaveResetValues. The straps and pin levels of State.reset are the model's choice (DESIGN CHOICE, log entry
8), and nothing here rests on them. -/
def Obligations.ResetLeavesSpecValues : Prop :=
  State.reset.mdc.mode = .init ∧ State.reset.seq.cycle = none ∧ State.reset.seq.condition = .cold ∧
  State.reset.pins.portReady = false ∧ State.reset.pq = [] ∧ State.reset.rt = [] ∧
  (∀ src : Source, State.reset.ft.rows[src] = .free) ∧
  State.reset.ft.flush = { active := false, remaining := 0, complete := false } ∧
  (∀ n : Rank, State.reset.rfs[n] = { debt := 0, timer := .stopped }) ∧ (∀ n : Rank, State.reset.chk[n] = 0) ∧
  State.reset.scr = { rank := 0, line := 0, passCount := 0, timer := .stopped, due := false } ∧
  State.reset.flg = { records := [], next := 0, overflow := false, mask := 0, line := false } ∧
  State.reset.mdc.holdupTimer = .stopped ∧
  State.reset.mdc.record =
    { cause := .powerOn, modeAtReset := none, discarded := 0, writeCut := false, fillComplete := false } ∧
  State.reset.cfg.pending = false ∧ State.reset.cfg.outcome = .none ∧
  State.reset.cfg.active.refreshInterval = 78 ∧ State.reset.cfg.active.urgentLevel = 6 ∧
  State.reset.cfg.active.highMark = 12 ∧ State.reset.cfg.active.drainThreshold = 4 ∧
  State.reset.cfg.active.ageLimit = 20 ∧ State.reset.cfg.active.scrubEnable = false ∧
  State.reset.cfg.active.scrubInterval = 1000 ∧ State.reset.cfg.active.correctedThreshold = 16 ∧
  State.reset.cfg.active.holdupTime = 50 ∧ State.reset.cfg.staged = State.reset.cfg.active ∧
  State.reset.mnt.pointer = 0 ∧ State.reset.mnt.transfer = .idle ∧
  State.reset.mnt.result = { result := .none, command := 0 } ∧ State.reset.mnt.snapshot.present = false

/-- State.reset is sound. -/
def Obligations.ResetIsSound : Prop := Sound State.reset

/-- Every step keeps the posting queue sound (R1, R3, R4). -/
def Obligations.StepKeepsQueueSound : Prop :=
  ∀ s t : State, QueueSound s → step s = .next t → QueueSound t

/-- Every step keeps the fence rows and the flush counting exactly the marked entries (R47, R53). -/
def Obligations.StepKeepsFenceSound : Prop :=
  ∀ s t : State, FenceSound s → step s = .next t → FenceSound t

/-- Every step keeps the read table sound (R25, R26). -/
def Obligations.StepKeepsReadTableSound : Prop :=
  ∀ s t : State, ReadTableSound s → step s = .next t → ReadTableSound t

/-- Every step keeps at most 8 fault records, and FAULT_N asserted exactly while one is of an enabled kind (R109, R115). -/
def Obligations.StepKeepsLogSound : Prop :=
  ∀ s t : State, LogSound s → step s = .next t → LogSound t

/-- Every step keeps the canonical form of the ranks' memory (the model's form, log entry 9). -/
def Obligations.StepKeepsArraySound : Prop :=
  ∀ s t : State, ArraySound s → step s = .next t → ArraySound t

/-- No step lets a running timer's expiry pass: each is taken at its time (DESIGN CHOICE, log entry 3). -/
def Obligations.StepKeepsTimersAhead : Prop :=
  ∀ s t : State, TimersAhead s → step s = .next t → TimersAhead t

/-- Every step keeps the active set legal, and the staged set while a commit of it is pending (R135, R138, R140). -/
def Obligations.StepKeepsConfigSound : Prop :=
  ∀ s t : State, ConfigSound s → step s = .next t → ConfigSound t

/-- Every step keeps what the mode governs: PORT_READY, RST_N, PWARN_N, fill complete, the array condition, the cycle in
flight, the work held, the timers and the commit state (R79, R102, R124, R131, R133, R141, R154, R158). -/
def Obligations.StepKeepsModeSound : Prop :=
  ∀ s t : State, ModeSound s → step s = .next t → ModeSound t

/-- Every step keeps the debts, counts and pointers of the ranks sound (R78, R97, R101). -/
def Obligations.StepKeepsRanksSound : Prop :=
  ∀ s t : State, ConfigSound s → ModeSound s → RanksSound s → step s = .next t → RanksSound t

/-! ## Rank windows and the commit check -/

/-- What the commit check admits (R135, R140, Table 9-1): exactly the sets in which every enabled rank's base is a multiple
of its size and its window ends inside the space, no two enabled windows share a line, some rank is enabled, and every
other field is in its legal range. Any other set gets the reason of the first test of Table 9-3 that fails: a reason exactly
if its test fails and every earlier one passes. -/
def Obligations.CommitCheckAdmitsLegalSets : Prop :=
  (∀ (c : Settings) (earlier later : List CommitReason) (r : CommitReason), commitTests = earlier ++ r :: later →
    (commitCheck c = some r ↔ ¬TestPasses c r ∧ ∀ x ∈ earlier, TestPasses c x)) ∧
  ∀ c : Settings, commitCheck c = none ↔
    (∀ n : Rank, c.ranks[n].enable = true →
      c.ranks[n].size.lines ∣ c.ranks[n].base.toNat ∧ c.ranks[n].base.toNat + c.ranks[n].size.lines ≤ 134217728) ∧
    (∀ (n m : Rank) (line : LineAddr), c.ranks[n].holds line = true → c.ranks[m].holds line = true → n = m) ∧
    (∃ n : Rank, c.ranks[n].enable = true) ∧
    (1 ≤ c.drainThreshold.toNat ∧ c.drainThreshold.toNat ≤ 16 ∧ 2 ≤ c.highMark.toNat ∧ c.highMark.toNat ≤ 16 ∧
      c.drainThreshold.toNat ≤ c.highMark.toNat) ∧
    (10 ≤ c.refreshInterval.toNat ∧ c.refreshInterval.toNat ≤ 156) ∧
    (2 ≤ c.urgentLevel.toNat ∧ c.urgentLevel.toNat ≤ 8) ∧
    c.holdupTime ≠ 0 ∧ c.scrubInterval ≠ 0 ∧ c.correctedThreshold ≠ 0

/-- A line decodes to rank `n` of the active set exactly when `n` is enabled and the line is in its window, so to one rank
or to none; the rank line is the line less the base, below the rank's size in lines; and the sizes in lines (R65). -/
def Obligations.LineDecodesByWindow : Prop :=
  (∀ (s : State) (line : LineAddr) (n : Rank), ConfigSound s →
    (s.cfg.active.rankOf line = some n ↔ s.cfg.active.ranks[n].enable = true ∧
      s.cfg.active.ranks[n].base.toNat ≤ line.toNat ∧
      line.toNat < s.cfg.active.ranks[n].base.toNat + s.cfg.active.ranks[n].size.lines) ∧
    (s.cfg.active.rankOf line = some n →
      (s.cfg.active.rankLine n line).toNat = line.toNat - s.cfg.active.ranks[n].base.toNat ∧
      (s.cfg.active.rankLine n line).toNat < s.cfg.active.ranks[n].size.lines)) ∧
  RankSize.mib128.lines = 4194304 ∧ RankSize.mib256.lines = 8388608 ∧ RankSize.mib512.lines = 16777216 ∧
  RankSize.mib1024.lines = 33554432

/-! ## The request port -/

/-- The messages of the request port (Tables 11-3 to 11-5). A request message is the command that its kind code names, with
the message's fields (R158). Of the fields, a FENCE and a request of unknown kind take the source and the tag alone, a READ
the line beside them, and a WRITE the line, the mask and the data bytes at the masked positions (R159). A response message
echoes kind, source and tag, and carries the response, code, poison and data fields (R160). -/
def Obligations.RequestPortMessages : Prop :=
  (∀ (k : BitVec 3) (m : Request) (i : Instr), i = ({ kind := k, body := m } : RequestMessage).command →
    (k = 0 → i = .write m) ∧ (k = 1 → i = .read m) ∧ (k = 2 → i = .fence m) ∧
    (3 ≤ k.toNat → i = .unknownKindRequest k m)) ∧
  (∀ (m m' : Request) (s : State), m.source = m'.source → m.tag = m'.tag →
    exec (.fence m) s = exec (.fence m') s ∧
    (∀ k, exec (.unknownKindRequest k m) s = exec (.unknownKindRequest k m') s) ∧
    (m.line = m'.line → exec (.read m) s = exec (.read m') s ∧
      (m.mask = m'.mask → (∀ p < 32, m.mask.getLsbD p = true → lineByte m.data p = lineByte m'.data p) →
        exec (.write m) s = exec (.write m') s))) ∧
  (∀ (k : BitVec 3) (src : Source) (tag : Tag) (d : LineData) (poison : WordSet),
    ({ kind := k, source := src, tag := tag, answer := .rdata d poison } : Response).message =
      { kind := k, source := BitVec.ofFin src, tag := tag, response := 1, code := 0, poison := poison, data := d }) ∧
  ∀ (k : BitVec 3) (src : Source) (tag : Tag) (a : Answer) (response : BitVec 3) (code : BitVec 4),
    (a, response, code) ∈
      ([(.wack, 0, 0), (.fdone .clean, 2, 0), (.fdone .faulted, 2, 1), (.fdone .discarded, 2, 2),
        (.retry .full, 3, 1), (.retry .tableFull, 3, 2), (.retry .filling, 3, 3), (.retry .resuming, 3, 4),
        (.retry .committing, 3, 5), (.refuse .unmapped, 4, 1), (.refuse .malformed, 4, 2), (.refuse .halted, 4, 3),
        (.refuse .tagInUse, 4, 4), (.refuse .fenceBusy, 4, 5)] : List (Answer × BitVec 3 × BitVec 4)) →
    ({ kind := k, source := src, tag := tag, answer := a } : Response).message =
      { kind := k, source := BitVec.ofFin src, tag := tag, response := response, code := code, poison := 0, data := 0 }

/-- What each request is answered before any check of its contents, by mode and commit state, and that nothing else
changes (Tables 1-4, 2-3 and 3-2); while PORT_READY is low a request is not taken (R158). -/
def Obligations.RequestsAnsweredByMode : Prop :=
  ∀ (m : Request) (s : State),
    (s.pins.portReady = false →
      exec (.write m) s = .next (s.sending [] []) ∧ exec (.read m) s = .next (s.sending [] []) ∧
      exec (.fence m) s = .next (s.sending [] [])) ∧
    (s.pins.portReady = true → s.mdc.mode = .run → s.cfg.pending = true →
      exec (.write m) s = .next (s.sending [responseTo 0 m (.retry .committing)] []) ∧
      exec (.read m) s = .next (s.sending [responseTo 1 m (.retry .committing)] [])) ∧
    (s.pins.portReady = true → s.mdc.mode = .fill →
      exec (.write m) s = .next (s.sending [responseTo 0 m (.retry .filling)] []) ∧
      exec (.read m) s = .next (s.sending [responseTo 1 m (.retry .filling)] []) ∧
      exec (.fence m) s = .next (s.sending [responseTo 2 m (.retry .filling)] [])) ∧
    (s.pins.portReady = true → s.mdc.mode = .resume →
      exec (.write m) s = .next (s.sending [responseTo 0 m (.retry .resuming)] []) ∧
      exec (.read m) s = .next (s.sending [responseTo 1 m (.retry .resuming)] []) ∧
      exec (.fence m) s = .next (s.sending [responseTo 2 m (.retry .resuming)] [])) ∧
    (s.pins.portReady = true → s.mdc.mode = .holdup →
      exec (.write m) s = .next (s.sending [responseTo 0 m (.refuse .halted)] [])) ∧
    (s.pins.portReady = true → s.mdc.mode = .retain →
      exec (.write m) s = .next (s.sending [responseTo 0 m (.refuse .halted)] []) ∧
      exec (.read m) s = .next (s.sending [responseTo 1 m (.refuse .halted)] []) ∧
      exec (.fence m) s = .next (s.sending [responseTo 2 m (.refuse .halted)] []))

/-- A request of unknown kind is answered as a WRITE is up to the first content check, then REFUSE MALFORMED; the response
echoes the kind code, source and tag, no tag is checked, and nothing else changes (R8). While PORT_READY is low it is not
taken (R158). -/
def Obligations.UnknownKindAnsweredAsWrite : Prop :=
  ∀ (kind : BitVec 3) (m : Request) (s : State), 3 ≤ kind.toNat →
    (s.pins.portReady = false → exec (.unknownKindRequest kind m) s = .next (s.sending [] [])) ∧
    (s.pins.portReady = true → s.mdc.mode = .run → s.cfg.pending = true →
      exec (.unknownKindRequest kind m) s = .next (s.sending [responseTo kind m (.retry .committing)] [])) ∧
    (s.pins.portReady = true → s.mdc.mode = .fill →
      exec (.unknownKindRequest kind m) s = .next (s.sending [responseTo kind m (.retry .filling)] [])) ∧
    (s.pins.portReady = true → s.mdc.mode = .resume →
      exec (.unknownKindRequest kind m) s = .next (s.sending [responseTo kind m (.retry .resuming)] [])) ∧
    (s.pins.portReady = true → s.mdc.mode = .holdup ∨ s.mdc.mode = .retain →
      exec (.unknownKindRequest kind m) s = .next (s.sending [responseTo kind m (.refuse .halted)] [])) ∧
    (s.pins.portReady = true → s.mdc.mode = .run → s.cfg.pending = false →
      exec (.unknownKindRequest kind m) s = .next (s.sending [responseTo kind m (.refuse .malformed)] []))

/-- The WRITEs and READs that are taken and change nothing. WRITEs: an empty mask, an unmapped line, and a full queue with
no open entry of the source for the line (R9, R12). READs: a held tag, an unmapped line, and a full table with the line not
covered (R28). -/
def Obligations.RequestsRefusedOrRetried : Prop :=
  (∀ (m : Request) (s : State), s.pins.portReady = true → s.mdc.mode = .run → s.cfg.pending = false →
    (m.mask = 0 → exec (.write m) s = .next (s.sending [responseTo 0 m (.refuse .malformed)] [])) ∧
    (m.mask ≠ 0 → s.cfg.active.rankOf m.line = none →
      exec (.write m) s = .next (s.sending [responseTo 0 m (.refuse .unmapped)] [])) ∧
    (m.mask ≠ 0 → (∃ n, s.cfg.active.rankOf m.line = some n) → 16 ≤ s.pq.length →
      (∀ e ∈ s.pq, ¬(e.isOpen = true ∧ e.source = m.source ∧ e.line = m.line)) →
      exec (.write m) s = .next (s.sending [responseTo 0 m (.retry .full)] []))) ∧
  ∀ (m : Request) (s : State), s.pins.portReady = true →
    (s.mdc.mode = .run ∧ s.cfg.pending = false ∨ s.mdc.mode = .holdup) →
    (PairHeld s m.source m.tag →
      exec (.read m) s = .next (s.sending [responseTo 1 m (.refuse .tagInUse)] [])) ∧
    (¬PairHeld s m.source m.tag → s.cfg.active.rankOf m.line = none →
      exec (.read m) s = .next (s.sending [responseTo 1 m (.refuse .unmapped)] [])) ∧
    (¬PairHeld s m.source m.tag → (∃ n, s.cfg.active.rankOf m.line = some n) →
      (∃ p < 32, ∀ e ∈ s.pq, ¬e.holdsByte m.line p) → 8 ≤ s.rt.length →
      exec (.read m) s = .next (s.sending [responseTo 1 m (.retry .tableFull)] []))

/-- A WRITE whose source has an open entry for its line coalesces: the entry's mask becomes the union, its bytes at the
WRITE's positions become the WRITE's, and everything else stays (R10). -/
def Obligations.WriteCoalesces : Prop :=
  ∀ (m : Request) (s : State) (older younger : List Entry) (e : Entry),
    s.pins.portReady = true → s.mdc.mode = .run → s.cfg.pending = false →
    m.mask ≠ 0 → (∃ n, s.cfg.active.rankOf m.line = some n) → QueueSound s →
    s.pq = older ++ e :: younger → e.isOpen = true → e.source = m.source → e.line = m.line →
    ∃ d : LineData,
      exec (.write m) s = .next { s.sending [responseTo 0 m .wack] [] with
        pq := older ++ { e with mask := e.mask ||| m.mask, data := d } :: younger } ∧
      ∀ p < 32, lineByte d p = if m.mask.getLsbD p then lineByte m.data p else lineByte e.data p

/-- A WRITE that finds no open entry of its source for its line, and room in the queue, becomes a new entry at the youngest
end; its source's open entry closes, and everything else stays (R11, R6). -/
def Obligations.WriteAppends : Prop :=
  ∀ (m : Request) (s : State),
    s.pins.portReady = true → s.mdc.mode = .run → s.cfg.pending = false →
    m.mask ≠ 0 → (∃ n, s.cfg.active.rankOf m.line = some n) →
    (∀ e ∈ s.pq, ¬(e.isOpen = true ∧ e.source = m.source ∧ e.line = m.line)) → s.pq.length < 16 →
    ∃ d : LineData,
      exec (.write m) s = .next { s.sending [responseTo 0 m .wack] [] with
        pq := (s.pq.map fun e => if e.source = m.source then { e with isOpen := false } else e) ++
          [{ line := m.line, source := m.source, mask := m.mask, data := d, state := .queued, isOpen := true,
             ripe := decide (s.cfg.active.ageLimit = 0), fenced := false, flushed := false, faulted := false,
             timer := if s.cfg.active.ageLimit = 0 then .stopped
               else .running (s.now + 10 * s.cfg.active.ageLimit.toNat) }] } ∧
      ∀ p < 32, lineByte d p = if m.mask.getLsbD p then lineByte m.data p else 0

/-- A READ whose line the queue covers is answered RDATA at once: each byte the youngest entry's, the poison set empty, and
nothing else changes (R30). -/
def Obligations.ReadForwardedFromQueue : Prop :=
  ∀ (m : Request) (s : State), s.pins.portReady = true →
    (s.mdc.mode = .run ∧ s.cfg.pending = false ∨ s.mdc.mode = .holdup) →
    ¬PairHeld s m.source m.tag → (∃ n, s.cfg.active.rankOf m.line = some n) →
    (∀ p < 32, ∃ e ∈ s.pq, e.holdsByte m.line p) →
    ∃ d : LineData,
      exec (.read m) s = .next (s.sending [responseTo 1 m (.rdata d 0)] []) ∧
      ∀ p < 32, ∀ e, YoungestHolding s.pq m.line p e → lineByte d p = lineByte e.data p

/-- A READ whose line the queue does not cover, with room in the table, adds a WAITING record at the end of the arrival
order, and is not answered yet (R31). -/
def Obligations.ReadAddsRecord : Prop :=
  ∀ (m : Request) (s : State), s.pins.portReady = true →
    (s.mdc.mode = .run ∧ s.cfg.pending = false ∨ s.mdc.mode = .holdup) →
    ¬PairHeld s m.source m.tag → (∃ n, s.cfg.active.rankOf m.line = some n) →
    (∃ p < 32, ∀ e ∈ s.pq, ¬e.holdsByte m.line p) → s.rt.length < 8 →
    exec (.read m) s = .next { s.sending [] [] with
      rt := s.rt ++ [{ source := m.source, tag := m.tag, line := m.line, state := .waiting }] }

/-- A FENCE taken in RUN or HOLDUP: with a held tag, with a PENDING row of its source, and with no entry of its source in
the queue it is answered at once and changes nothing (R46); else its row becomes PENDING with its tag and the number of the
source's entries, each of which is marked fenced and closed, and nothing else changes (R47). -/
def Obligations.FenceAnsweredOrPending : Prop :=
  ∀ (m : Request) (s : State), s.pins.portReady = true → (s.mdc.mode = .run ∨ s.mdc.mode = .holdup) →
    (PairHeld s m.source m.tag →
      exec (.fence m) s = .next (s.sending [responseTo 2 m (.refuse .tagInUse)] [])) ∧
    (∀ f, ¬PairHeld s m.source m.tag → s.ft.rows[m.source] = .pending f →
      exec (.fence m) s = .next (s.sending [responseTo 2 m (.refuse .fenceBusy)] [])) ∧
    (¬PairHeld s m.source m.tag → s.ft.rows[m.source] = .free → (∀ e ∈ s.pq, e.source ≠ m.source) →
      exec (.fence m) s = .next (s.sending [responseTo 2 m (.fdone .clean)] [])) ∧
    (¬PairHeld s m.source m.tag → s.ft.rows[m.source] = .free → (∃ e ∈ s.pq, e.source = m.source) →
      ∃ rows : Vector FenceRow 4,
        exec (.fence m) s = .next { s.sending [] [] with
          ft := { s.ft with rows := rows }
          pq := s.pq.map fun e => if e.source = m.source then { e with fenced := true, isOpen := false } else e } ∧
        rows[m.source] = .pending { tag := m.tag, remaining := (s.pq.filter fun e => e.source == m.source).length,
                                    faulted := false, discarded := false } ∧
        ∀ src : Source, src ≠ m.source → rows[src] = s.ft.rows[src])

/-! ## GRANT -/

/-- On an ACTIVE array with no claim of row 1, a grant takes the urgent rank of the highest debt, equal debts to the lower
number, ahead of every other claim (R61 row 2, R83). -/
def Obligations.GrantTakesUrgentRefresh : Prop :=
  ∀ (s : State) (n : Rank), WorkGrantable s → UrgentRank s n → (∀ m : Rank, UrgentRank s m → RefreshBefore s n m) →
    exec .grant s = .next { s.sending [] [] with seq := { cycle := some (.refresh n), condition := .active } }

/-- With no urgent refresh, a grant takes the QUEUED head when drain is pressing, or when it is due and no read is WAITING
(R61 rows 3 and 5): the head becomes WRITING and closed, and the cycle is a MERGE WRITE exactly if its mask covers some word
in part (R16). That this order stands after a deassertion of PWARN_N in HOLDUP too is the model's choice between R61 and R41
(DESIGN CHOICE, log entry 19). -/
def Obligations.GrantTakesDrain : Prop :=
  ∀ (s : State) (e : Entry) (rest : List Entry) (n : Rank), WorkGrantable s → (∀ m : Rank, ¬UrgentRank s m) →
    s.pq = e :: rest → e.state = .queued → s.cfg.active.rankOf e.line = some n →
    (Pressing s ∨ ThresholdOrRipe s ∧ NoneWaiting s) →
    ∃ c : Cycle,
      exec .grant s = .next { s.sending [] [] with
        pq := { e with state := .writing, isOpen := false } :: rest
        seq := { cycle := some c, condition := .active } } ∧
      ((∃ w, PartialWord e.mask w) → c = .mergeWrite n (s.cfg.active.rankLine n e.line)) ∧
      ((∀ w, ¬PartialWord e.mask w) → c = .plainWrite n (s.cfg.active.rankLine n e.line))

/-- With no urgent refresh and no pressing drain claim, a grant takes the oldest WAITING record, which becomes READING, and
begins the LINE READ of its line (R33, R61 row 4), ahead of a due drain. That this order stands after a deassertion of
PWARN_N in HOLDUP too is the model's choice between R61 and R41 (DESIGN CHOICE, log entry 19). -/
def Obligations.GrantTakesRead : Prop :=
  ∀ (s : State) (x : ReadRecord) (older younger : List ReadRecord) (n : Rank), WorkGrantable s →
    (∀ m : Rank, ¬UrgentRank s m) → NoPressingDrain s →
    s.rt = older ++ x :: younger → (∀ y ∈ older, y.state = .reading) → x.state = .waiting →
    s.cfg.active.rankOf x.line = some n →
    exec .grant s = .next { s.sending [] [] with
      rt := older ++ { x with state := .reading } :: younger
      seq := { cycle := some (.lineRead n (s.cfg.active.rankLine n x.line)), condition := .active } }

/-- With no urgent refresh, no drain claim and no WAITING read, a grant takes in FILL the fill claim, else the rank of the
highest debt, else in RUN the scrub claim, whose due flag it clears (R61 rows 6 to 8, R103, R153). -/
def Obligations.GrantTakesBackgroundWork : Prop :=
  ∀ s : State, WorkGrantable s → (∀ m : Rank, ¬UrgentRank s m) → NoDrain s → NoneWaiting s →
    (s.mdc.mode = .fill → exec .grant s = .next { s.sending [] [] with
      seq := { cycle := some (.fill s.mdc.fillRank s.mdc.fillLine), condition := .active } }) ∧
    (∀ n : Rank, s.mdc.mode ≠ .fill → 1 ≤ s.rfs[n].debt → (∀ m : Rank, 1 ≤ s.rfs[m].debt → RefreshBefore s n m) →
      exec .grant s = .next { s.sending [] [] with seq := { cycle := some (.refresh n), condition := .active } }) ∧
    (s.mdc.mode = .run → (∀ m : Rank, s.rfs[m].debt = 0) → s.scr.due = true →
      exec .grant s = .next { s.sending [] [] with
        scr := { s.scr with due := false }
        seq := { cycle := some (.scrub s.scr.rank s.scr.line), condition := .active } })

/-- The idle SEQ grants the mode operation that INIT, HOLDUP or RESUME calls for; the grant of SELF-REFRESH ENTRY makes the
array condition SELF-REFRESH (R61 row 1, R62, R74, R126, R132, R152). -/
def Obligations.GrantTakesModeOperation : Prop :=
  ∀ s : State, s.seq.cycle = none → s.pins.rst = false →
    (s.mdc.mode = .init → s.seq.condition ≠ .selfRefresh → exec .grant s = .next { s.sending [] [] with
      seq := { cycle := some .powerUp, condition := s.seq.condition } }) ∧
    (s.mdc.mode = .init ∨ s.mdc.mode = .resume → s.seq.condition = .selfRefresh →
      exec .grant s = .next { s.sending [] [] with
        seq := { cycle := some .selfRefreshExit, condition := .selfRefresh } }) ∧
    (s.mdc.mode = .holdup → s.seq.condition = .active → s.pq = [] → s.rt = [] → RowsFree s →
      exec .grant s = .next { s.sending [] [] with
        seq := { cycle := some .selfRefreshEntry, condition := .selfRefresh } })

/-- Where nothing may be granted nothing changes: a busy SEQ, a device held in reset, an array condition that allows no
standing claim, and an ACTIVE array in RUN on which no claim stands (R58, R60, R62, R148). A GRANT there is no event of the
device, and that it changes nothing is the model's choice (DESIGN CHOICE, log entry 5). -/
def Obligations.GrantWithoutGrantableClaim : Prop :=
  ∀ s : State,
    (s.seq.cycle ≠ none → exec .grant s = .next (s.sending [] [])) ∧
    (s.pins.rst = true → exec .grant s = .next (s.sending [] [])) ∧
    (s.seq.condition = .selfRefresh → s.mdc.mode ≠ .init → s.mdc.mode ≠ .resume →
      exec .grant s = .next (s.sending [] [])) ∧
    (s.seq.condition = .cold → s.mdc.mode ≠ .init → exec .grant s = .next (s.sending [] [])) ∧
    (s.mdc.mode = .run → (∀ m : Rank, s.rfs[m].debt = 0) → NoDrain s → NoneWaiting s → s.scr.due = false →
      exec .grant s = .next (s.sending [] []))

/-! ## Stored words and the fault log -/

/-- A word written whole and then hit by flips of different stored bits reads as Table 6-1 says; a word with a fresh code
and at most one flip is handed on as it was written, any other as it is stored (R91, R93). -/
def Obligations.WordOutcomeByFlips : Prop :=
  ∀ (c : CodeForm) (d : Word) (bits : List StoredBit), bits.Nodup →
    ∀ x : StoredWord, x = bits.foldl StoredWord.flip { stored := d, written := d, code := c, codeFlips := [] } →
    x.outcome = (match c with
      | .fresh => if bits.length = 0 then .clean else if bits.length = 1 then .corrected else .uncorrectable
      | .poison => if bits.length ≤ 1 then .poisoned else .uncorrectable) ∧
    (c = .fresh → bits.length ≤ 1 → x.handed = d) ∧
    (c = .poison ∨ 2 ≤ bits.length → x.handed = x.stored)

/-- The FLG gives each fault event the next number; with fewer than 8 records it appends the record, asserting FAULT_N if
the kind is enabled, and with 8 it drops the record and sets overflow (R111, R112, R113, R115). A kind is enabled by the bit
of the mask that R165 gives it, bit k for kind k (R114); a list of records asserts FAULT_N if the kind of one is enabled. -/
def Obligations.FaultTakenIntoLog : Prop :=
  (∀ (mask : BitVec 6) (n : Rank) (l : LineAddr) (q : Source) (w : WordSet) (c : BitVec 16) (k : Nat),
    enabledIn mask (.correctedLimit n c) = mask.getLsbD 0 ∧
    enabledIn mask (.readUncorrectable n l q w) = mask.getLsbD 1 ∧
    enabledIn mask (.mergeUncorrectable n l q w) = mask.getLsbD 2 ∧
    enabledIn mask (.scrubUncorrectable n l w) = mask.getLsbD 3 ∧
    enabledIn mask (.refreshOverrun n) = mask.getLsbD 4 ∧
    enabledIn mask (.holdupDiscard k) = mask.getLsbD 5) ∧
  (∀ (mask : BitVec 6) (rs : List FaultRecord),
    someEnabled mask rs = true ↔ ∃ x ∈ rs, enabledIn mask x.event = true) ∧
  ∀ (f : FaultLog) (e : FaultEvent),
    (f.records.length < 8 → f.take e =
      { f with records := f.records ++ [{ number := f.next, event := e }], next := f.next + 1,
               line := f.line || enabledIn f.mask e }) ∧
    (8 ≤ f.records.length → f.take e = { f with next := f.next + 1, overflow := true })

/-! ## DEPARTURE -/

/-- When the head's array write completes, the head leaves the queue and its bytes stand in the array: FULL words whole with
a fresh code, PARTIAL words merged, poisoned if the word read was UNCORRECTABLE or POISONED, NONE words and every other line
untouched (R18, R68, R69, R94). The words read are those that stand in the array at the completion (DESIGN CHOICE, log entry
6). -/
def Obligations.DepartureWritesWords : Prop :=
  ∀ (s : State) (e : Entry) (rest : List Entry) (r : Rank) (l : RankLine), WritingHead s e rest r l →
    ∃ (t : State) (rsp : List Response) (arr : Memory) (ft : FenceTable) (flg : FaultLog) (chk : Vector (BitVec 16) 4),
      exec .departure s = .next t ∧
      t = { s.sending rsp [] with
        pq := rest, seq := { s.seq with cycle := none }, array := arr, ft := ft, flg := flg, chk := chk } ∧
      (∀ w, FullWord e.mask w → t.word r l w = freshWord (lineWord e.data w)) ∧
      (∀ w, NoneWord e.mask w → t.word r l w = s.word r l w) ∧
      (∀ w, PartialWord e.mask w →
        (t.word r l w).written = (t.word r l w).stored ∧ (t.word r l w).codeFlips = [] ∧
        ((t.word r l w).code = .poison ↔
          (s.word r l w).outcome = .uncorrectable ∨ (s.word r l w).outcome = .poisoned) ∧
        ∀ p < 8, wordByte (t.word r l w).stored p =
          if e.mask.getLsbD (8 * w.val + p) then lineByte e.data (8 * w.val + p)
          else wordByte (s.word r l w).handed p) ∧
      ∀ (r' : Rank) (l' : RankLine) (w : Fin 4), ¬(r' = r ∧ l' = l) → t.word r' l' w = s.word r' l' w

/-- A departure is counted by the fence row of its source if the entry is fenced, whose FDONE leaves as the row reaches 0,
and by the flush if it is flushed; no other row changes (R17, R48, R49, R55). `b` is the faulted mark at departure, by the
words that stand in the array at the completion (DESIGN CHOICE, log entry 6). -/
def Obligations.DepartureCounted : Prop :=
  ∀ (s : State) (e : Entry) (rest : List Entry) (r : Rank) (l : RankLine) (b : Bool), WritingHead s e rest r l →
    (b = true ↔ e.faulted = true ∨ ∃ w, MergeFinds s e r l .uncorrectable w ∨ MergeFinds s e r l .poisoned w) →
    ∃ t : State, exec .departure s = .next t ∧
      (∀ src : Source, src ≠ e.source ∨ e.fenced = false → t.ft.rows[src] = s.ft.rows[src]) ∧
      (e.fenced = false → t.rsp = []) ∧
      (∀ f, e.fenced = true → s.ft.rows[e.source] = .pending f → 2 ≤ f.remaining →
        t.ft.rows[e.source] = .pending { f with remaining := f.remaining - 1, faulted := f.faulted || b } ∧
        t.rsp = []) ∧
      (∀ f, e.fenced = true → s.ft.rows[e.source] = .pending f → f.remaining = 1 →
        t.ft.rows[e.source] = .free ∧
        t.rsp = [{ kind := 2, source := e.source, tag := f.tag,
                   answer := .fdone (if f.discarded then .discarded else if f.faulted || b then .faulted else .clean) }]) ∧
      (e.flushed = false → t.ft.flush = s.ft.flush) ∧
      (e.flushed = true → s.ft.flush.active = true → 2 ≤ s.ft.flush.remaining →
        t.ft.flush = { s.ft.flush with remaining := s.ft.flush.remaining - 1 }) ∧
      (e.flushed = true → s.ft.flush.active = true → s.ft.flush.remaining = 1 →
        t.ft.flush = { active := false, remaining := 0, complete := true })

/-- A departure adds its CORRECTED PARTIAL words to the rank's corrected count, saturating, and reports its UNCORRECTABLE
PARTIAL words in one event, before the limit event if the count reached the threshold (R95, R97, R98). The outcomes are those
of the words that stand in the array at the completion (DESIGN CHOICE, log entry 6). -/
def Obligations.DepartureReportsOutcomes : Prop :=
  ∀ (s : State) (e : Entry) (rest : List Entry) (r : Rank) (l : RankLine) (bad : WordSet) (k : Nat),
    WritingHead s e rest r l → IsWordSet bad (MergeFinds s e r l .uncorrectable) →
    k = (Finset.univ.filter fun w => MergeFinds s e r l .corrected w).card →
    ∃ t : State, exec .departure s = .next t ∧
      t.chk[r].toNat = min (s.chk[r].toNat + k) 65535 ∧ (∀ n : Rank, n ≠ r → t.chk[n] = s.chk[n]) ∧
      t.flg = logAfter s bad (.mergeUncorrectable r e.line e.source bad) r s.chk[r].toNat t.chk[r].toNat

/-- No departure changes the data bytes that a read of any mapped line would return: the bytes that leave the queue stand in
the array, and no other byte moves (R18, R22, R39). The poison set, which a departure can change (R36, R94, R96), is no part
of this. Both views are of the words at the completion, where the model reads and writes them
(DESIGN CHOICE, log entry 6). -/
def Obligations.DepartureKeepsReads : Prop :=
  ∀ s t : State, QueueSound s → (∃ r l, s.seq.cycle = some (.plainWrite r l) ∨ s.seq.cycle = some (.mergeWrite r l)) →
    exec .departure s = .next t →
    ∀ (line : LineAddr) (n : Rank), s.cfg.active.rankOf line = some n → t.readView line n = s.readView line n

/-! ## LINE_READ_COMPLETION -/

/-- A LINE READ's completion answers its record RDATA: each byte the youngest entry's, else the array's as the CHK hands it
on; in the poison set the damaged words of which some byte came from the array. The record leaves the table, the SEQ is
idle, and the array, the queue and all else but the count and the log stay (R34, R35, R36, R38, R67). The bytes and outcomes
are those that stand in the array at the completion (DESIGN CHOICE, log entry 6). -/
def Obligations.LineReadReturnsMerge : Prop :=
  ∀ (s : State) (x : ReadRecord) (rest : List ReadRecord) (r : Rank) (l : RankLine), ReadingRecord s x rest r l →
    ∃ (d : LineData) (poison : WordSet) (flg : FaultLog) (chk : Vector (BitVec 16) 4),
      exec .lineReadCompletion s = .next
        { s.sending [{ kind := 1, source := x.source, tag := x.tag, answer := .rdata d poison }] [] with
          rt := rest, seq := { s.seq with cycle := none }, flg := flg, chk := chk } ∧
      (∀ p < 32, ∀ e, YoungestHolding s.pq x.line p e → lineByte d p = lineByte e.data p) ∧
      (∀ w : Fin 4, ∀ p < 8, (∀ e ∈ s.pq, ¬e.holdsByte x.line (8 * w.val + p)) →
        lineByte d (8 * w.val + p) = wordByte (s.word r l w).handed p) ∧
      IsWordSet poison fun w =>
        ((s.word r l w).outcome = .uncorrectable ∨ (s.word r l w).outcome = .poisoned) ∧
        ∃ p < 8, ∀ e ∈ s.pq, ¬e.holdsByte x.line (8 * w.val + p)

/-- A LINE READ's completion adds its CORRECTED words to the rank's corrected count and reports its UNCORRECTABLE words in
one event, before the limit event if the count reached the threshold, whatever the queue supplied (R37, R97, R98). The
outcomes are those of the words that stand in the array at the completion (DESIGN CHOICE, log entry 6). -/
def Obligations.LineReadReportsOutcomes : Prop :=
  ∀ (s : State) (x : ReadRecord) (rest : List ReadRecord) (r : Rank) (l : RankLine) (bad : WordSet) (k : Nat),
    ReadingRecord s x rest r l → IsWordSet bad (fun w => (s.word r l w).outcome = .uncorrectable) →
    k = (Finset.univ.filter fun w => (s.word r l w).outcome = .corrected).card →
    ∃ t : State, exec .lineReadCompletion s = .next t ∧
      t.chk[r].toNat = min (s.chk[r].toNat + k) 65535 ∧ (∀ n : Rank, n ≠ r → t.chk[n] = s.chk[n]) ∧
      t.flg = logAfter s bad (.readUncorrectable r x.line x.source bad) r s.chk[r].toNat t.chk[r].toNat

/-! ## Refresh -/

/-- At a tick of rank n, its timer having come to `d`, the debt rises by 1 below 8; at 8 it stays and one REFRESH_OVERRUN
is sent; either way the next tick is one refresh interval after this one, and the claim, which stands whenever no REFRESH
of the rank is in flight, is urgent by the new debt; nothing else changes, whatever cycle is in flight (R80). -/
def Obligations.RefreshTickRaisesDebt : Prop :=
  ∀ (s : State) (n : Rank) (d : Time), s.rfs[n].timer = .running d → d ≤ s.now →
    ∃ (t : State) (rfs : Vector RankRefresh 4), exec (.refreshTick n) s = .next t ∧
      (s.rfs[n].debt < 8 → t = { s.sending [] [] with rfs := rfs } ∧ rfs[n].debt = s.rfs[n].debt + 1) ∧
      (8 ≤ s.rfs[n].debt → t = { s.sending [] [] with rfs := rfs, flg := s.flg.take (.refreshOverrun n) } ∧
        rfs[n].debt = s.rfs[n].debt) ∧
      rfs[n].timer = .running (d + s.cfg.active.refreshInterval.toNat) ∧
      (∀ m : Rank, m ≠ n → rfs[m] = s.rfs[m]) ∧
      (s.seq.cycle ≠ some (.refresh n) → t.refreshClaim n = true) ∧
      (t.urgent n = true ↔ s.cfg.active.urgentLevel.toNat ≤ t.rfs[n].debt)

/-- The completion of a REFRESH of rank n takes 1 from its debt and leaves the SEQ idle; nothing else changes (R70, R83). -/
def Obligations.RefreshCompletionPaysDebt : Prop :=
  ∀ (s : State) (n : Rank), s.seq.cycle = some (.refresh n) →
    ∃ rfs : Vector RankRefresh 4,
      exec .refreshCompletion s = .next { s.sending [] [] with rfs := rfs, seq := { s.seq with cycle := none } } ∧
      rfs[n] = { s.rfs[n] with debt := s.rfs[n].debt - 1 } ∧ ∀ m : Rank, m ≠ n → rfs[m] = s.rfs[m]

/-! ## Scrub and fill -/

/-- A SCRUB's completion leaves each CORRECTED word repaired with a fresh code and every other word as it was, counts the
CORRECTED words, and reports the UNCORRECTABLE ones with the line, the rank's base plus the rank line (R71, R104). The words
found are those that stand in the array at the completion (DESIGN CHOICE, log entry 6). -/
def Obligations.ScrubWritesAndReports : Prop :=
  ∀ (s : State) (r : Rank) (l : RankLine) (line : LineAddr) (bad : WordSet) (k : Nat),
    s.seq.cycle = some (.scrub r l) → line.toNat = s.cfg.active.ranks[r].base.toNat + l.toNat →
    IsWordSet bad (fun w => (s.word r l w).outcome = .uncorrectable) →
    k = (Finset.univ.filter fun w => (s.word r l w).outcome = .corrected).card →
    ∃ (t : State) (arr : Memory) (flg : FaultLog) (chk : Vector (BitVec 16) 4) (scr : Scrubber),
      exec .scrubCompletion s = .next t ∧
      t = { s.sending [] [] with
        array := arr, flg := flg, chk := chk, scr := scr, seq := { s.seq with cycle := none } } ∧
      (∀ w, (s.word r l w).outcome = .corrected → t.word r l w = freshWord (s.word r l w).handed) ∧
      (∀ (r' : Rank) (l' : RankLine) (w : Fin 4), ¬(r' = r ∧ l' = l ∧ (s.word r l w).outcome = .corrected) →
        t.word r' l' w = s.word r' l' w) ∧
      chk[r].toNat = min (s.chk[r].toNat + k) 65535 ∧ (∀ n : Rank, n ≠ r → chk[n] = s.chk[n]) ∧
      flg = logAfter s bad (.scrubUncorrectable r line bad) r s.chk[r].toNat chk[r].toNat

/-- A SCRUB's completion moves the pointer to the next line of the rank, else to line 0 of the next enabled rank, else to
line 0 of the lowest enabled rank with the pass count one higher; the timer and the due flag stay (R105). -/
def Obligations.ScrubAdvancesPointer : Prop :=
  ∀ (s : State) (r : Rank) (l : RankLine), s.seq.cycle = some (.scrub r l) →
    ∃ t : State, exec .scrubCompletion s = .next t ∧
      (s.scr.line.toNat + 1 < s.cfg.active.ranks[s.scr.rank].size.lines →
        t.scr = { s.scr with line := s.scr.line + 1 }) ∧
      (s.cfg.active.ranks[s.scr.rank].size.lines ≤ s.scr.line.toNat + 1 →
        (∀ m : Rank, NextEnabled s.cfg.active s.scr.rank m → t.scr = { s.scr with rank := m, line := 0 }) ∧
        (∀ m : Rank, (∀ k : Rank, s.scr.rank < k → s.cfg.active.ranks[k].enable = false) →
          LowestEnabled s.cfg.active m →
          t.scr = { s.scr with rank := m, line := 0, passCount := s.scr.passCount + 1 }))

/-- A FILL's completion leaves its four words zero with a fresh code and every other line as it was; the pointer moves to
the next line, else to line 0 of the next enabled rank; after the last line the fill is complete and the mode becomes RUN,
or HOLDUP if PWARN_N is asserted (R72, R133, R153, R154). -/
def Obligations.FillCompletes : Prop :=
  ∀ (s : State) (r : Rank) (l : RankLine), s.seq.cycle = some (.fill r l) → s.cfg.pending = false →
    ∃ (t : State) (arr : Memory) (mdc : ModeController) (scr : Scrubber), exec .fillCompletion s = .next t ∧
      t = { s.sending [] [] with array := arr, mdc := mdc, scr := scr, seq := { s.seq with cycle := none } } ∧
      (∀ w, t.word r l w = freshWord 0) ∧
      (∀ (r' : Rank) (l' : RankLine) (w : Fin 4), ¬(r' = r ∧ l' = l) → t.word r' l' w = s.word r' l' w) ∧
      (s.mdc.fillLine.toNat + 1 < s.cfg.active.ranks[s.mdc.fillRank].size.lines →
        mdc = { s.mdc with fillLine := s.mdc.fillLine + 1 } ∧ scr = s.scr) ∧
      (s.cfg.active.ranks[s.mdc.fillRank].size.lines ≤ s.mdc.fillLine.toNat + 1 →
        (∀ m : Rank, NextEnabled s.cfg.active s.mdc.fillRank m →
          mdc = { s.mdc with fillRank := m, fillLine := 0 } ∧ scr = s.scr) ∧
        ((∀ m : Rank, s.mdc.fillRank < m → s.cfg.active.ranks[m].enable = false) →
          (s.pins.pwarn = false →
            mdc = { s.mdc with mode := .run, record := { s.mdc.record with fillComplete := true } } ∧
            scr = s.scrubStarted) ∧
          (s.pins.pwarn = true →
            mdc = { s.holdupEntered with record := { s.mdc.record with fillComplete := true } } ∧
            scr = s.scrubStopped)))

/-! ## Mode operations -/

/-- The first operation of INIT ends INIT: the array is ACTIVE, PORT_READY high, the tick timer of every enabled rank starts
afresh, and the mode becomes FILL with the pointer at line 0 of the lowest enabled rank, or, the ranks once filled, RUN, or
HOLDUP if PWARN_N is asserted (R73, R75, R133, R152). -/
def Obligations.InitEnds : Prop :=
  ∀ s : State, s.mdc.mode = .init → s.cfg.pending = false →
    ∃ rfs : Vector RankRefresh 4,
      (∀ n : Rank, rfs[n].debt = s.rfs[n].debt ∧
        rfs[n].timer = s.freshTimer s.cfg.active.ranks[n].enable s.cfg.active.refreshInterval.toNat) ∧
      ∀ i, i = .powerUpCompletion ∧ s.seq.cycle = some .powerUp ∨
          i = .selfRefreshExitCompletion ∧ s.seq.cycle = some .selfRefreshExit →
        (∀ m : Rank, s.mdc.record.fillComplete = false → LowestEnabled s.cfg.active m →
          exec i s = .next { s.sending [] [] with
            rfs := rfs, seq := { cycle := none, condition := .active }, pins := { s.pins with portReady := true }
            mdc := { s.mdc with mode := .fill, fillRank := m, fillLine := 0 } }) ∧
        (s.mdc.record.fillComplete = true → s.pins.pwarn = false →
          exec i s = .next { s.sending [] [] with
            rfs := rfs, seq := { cycle := none, condition := .active }, pins := { s.pins with portReady := true }
            mdc := { s.mdc with mode := .run }, scr := s.scrubStarted }) ∧
        (s.mdc.record.fillComplete = true → s.pins.pwarn = true →
          exec i s = .next { s.sending [] [] with
            rfs := rfs, seq := { cycle := none, condition := .active }, pins := { s.pins with portReady := true }
            mdc := s.holdupEntered, scr := s.scrubStopped })

/-- The completion of SELF-REFRESH ENTRY refuses the WAITING reads in arrival order, stops the hold-up and tick timers with
the debts held, and makes the mode RETAIN, or RESUME if PWARN_N is deasserted; nothing else changes (R87, R129). -/
def Obligations.EntryCompletionRetains : Prop :=
  ∀ s : State, s.seq.cycle = some .selfRefreshEntry →
    ∃ rfs : Vector RankRefresh 4,
      exec .selfRefreshEntryCompletion s = .next { s.sending s.refusals [] with
        rt := s.rt.filter fun x => x.state == .reading
        seq := { s.seq with cycle := none }
        rfs := rfs
        mdc := { s.mdc with mode := if s.pins.pwarn then .retain else .resume, holdupTimer := .stopped } } ∧
      ∀ n : Rank, rfs[n] = { debt := s.rfs[n].debt, timer := .stopped }

/-- In RESUME the completion of SELF-REFRESH EXIT makes the array ACTIVE, every debt 0 and every enabled rank's tick timer
start afresh, and the mode RUN, or HOLDUP if PWARN_N is asserted; nothing else changes (R75, R87, R132, R133). -/
def Obligations.ResumeEnds : Prop :=
  ∀ s : State, s.mdc.mode = .resume → s.seq.cycle = some .selfRefreshExit → s.cfg.pending = false →
    ∃ rfs : Vector RankRefresh 4,
      (∀ n : Rank, rfs[n].debt = 0 ∧
        rfs[n].timer = s.freshTimer s.cfg.active.ranks[n].enable s.cfg.active.refreshInterval.toNat) ∧
      (s.pins.pwarn = false → exec .selfRefreshExitCompletion s = .next { s.sending [] [] with
        rfs := rfs, seq := { cycle := none, condition := .active }
        mdc := { s.mdc with mode := .run }, scr := s.scrubStarted }) ∧
      (s.pins.pwarn = true → exec .selfRefreshExitCompletion s = .next { s.sending [] [] with
        rfs := rfs, seq := { cycle := none, condition := .active }
        mdc := s.holdupEntered, scr := s.scrubStopped })

/-! ## Timers -/

/-- An age timer's expiry makes its entry ripe and closes nothing; the scrub timer's expiry sets the due flag and comes
again one scrub interval later; nothing else changes (R6, R102). -/
def Obligations.AgeAndScrubTimersExpire : Prop :=
  (∀ (s : State) (older younger : List Entry) (e : Entry) (i : Fin 16) (d : Time),
    s.pq = older ++ e :: younger → older.length = i.val → e.timer = .running d → d ≤ s.now →
    exec (.ageTimerExpiry i) s = .next { s.sending [] [] with
      pq := older ++ { e with ripe := true, timer := .stopped } :: younger }) ∧
  ∀ (s : State) (d : Time), s.scr.timer = .running d → d ≤ s.now →
    exec .scrubTimerExpiry s = .next { s.sending [] [] with
      scr := { s.scr with due := true, timer := .running (d + 10 * s.cfg.active.scrubInterval.toNat) } }

/-- The hold-up timer's expiry removes every QUEUED entry, refuses the WAITING reads after any FDONE, logs the number of
entries discarded if there is one, and stops the timer; but for the fence table nothing else changes (R19, R41, R127). -/
def Obligations.HoldupExpiryDiscards : Prop :=
  ∀ (s : State) (d : Time) (k : Nat), s.mdc.holdupTimer = .running d → d ≤ s.now →
    k = (s.pq.filter fun e => e.state == .queued).length →
    ∃ (done : List Response) (ft : FenceTable),
      exec .holdupExpiry s = .next { s.sending (done ++ s.refusals) [] with
        pq := s.pq.filter fun e => e.state == .writing
        rt := s.rt.filter fun x => x.state == .reading
        ft := ft
        flg := if k = 0 then s.flg else s.flg.take (.holdupDiscard k)
        mdc := { s.mdc with holdupTimer := .stopped } }

/-- At the expiry each row loses its discarded entries from its count and is marked discarded; the rows that reach 0 are
answered FDONE DISCARDED, once each, in the order in which they reach it, and become FREE; the flush counts its discarded
entries (R48, R49, R51, R55, R160). -/
def Obligations.HoldupExpiryCountsDiscards : Prop :=
  ∀ (s : State) (d : Time), FenceSound s → s.mdc.holdupTimer = .running d → d ≤ s.now →
    ∃ (t : State) (done : List Response), exec .holdupExpiry s = .next t ∧ t.rsp = done ++ s.refusals ∧
      (∀ src : Source, s.fencedQueued src = 0 → t.ft.rows[src] = s.ft.rows[src]) ∧
      (∀ (src : Source) (f : PendingFence), s.ft.rows[src] = .pending f → 1 ≤ s.fencedQueued src →
        t.ft.rows[src] = if s.fencedQueued src = f.remaining then .free
          else .pending { f with remaining := f.remaining - s.fencedQueued src, discarded := true }) ∧
      (∀ x : Response, x ∈ done ↔ ∃ (src : Source) (f : PendingFence), s.ft.rows[src] = .pending f ∧
        s.fencedQueued src = f.remaining ∧
        x = { kind := 2, source := src, tag := f.tag, answer := .fdone .discarded }) ∧
      done.Nodup ∧
      (done.Pairwise fun x y => ∃ (older younger : List Entry) (e : Entry), s.pq = older ++ e :: younger ∧
        e.source = y.source ∧ e.fenced = true ∧ e.state = .queued ∧
        ∀ z ∈ younger, ¬(z.source = x.source ∧ z.fenced = true ∧ z.state = .queued)) ∧
      (s.flushedQueued = 0 → t.ft.flush = s.ft.flush) ∧
      (1 ≤ s.flushedQueued → t.ft.flush =
        if s.flushedQueued = s.ft.flush.remaining then { active := false, remaining := 0, complete := true }
        else { s.ft.flush with remaining := s.ft.flush.remaining - s.flushedQueued })

/-! ## Power warning and commit -/

/-- A change of level on PWARN_N by mode (Table 8-2): asserted in RUN, HOLDUP is entered with the timer started, a pending
commit cancelled and the scrubber stopped (R123); deasserted in HOLDUP before the entry's grant, the mode is RUN again
(R130); deasserted in RETAIN, the mode is RESUME (R131); else only the level changes. -/
def Obligations.PowerWarningByMode : Prop :=
  (∀ s : State, s.pins.pwarn = false →
    (s.mdc.mode = .run → exec .pwarnAsserted s = .next { s.sending [] [] with
      pins := { s.pins with pwarn := true }, mdc := s.holdupEntered, scr := s.scrubStopped
      cfg := if s.cfg.pending then { s.cfg with pending := false, outcome := .cancelled } else s.cfg }) ∧
    (s.mdc.mode ≠ .run → exec .pwarnAsserted s = .next { s.sending [] [] with
      pins := { s.pins with pwarn := true } })) ∧
  ∀ s : State, s.pins.pwarn = true →
    (s.mdc.mode = .holdup → s.seq.cycle ≠ some .selfRefreshEntry →
      exec .pwarnDeasserted s = .next { s.sending [] [] with
        pins := { s.pins with pwarn := false }, scr := s.scrubStarted
        mdc := { s.mdc with mode := .run, holdupTimer := .stopped } }) ∧
    (s.mdc.mode = .retain → exec .pwarnDeasserted s = .next { s.sending [] [] with
      pins := { s.pins with pwarn := false }, mdc := { s.mdc with mode := .resume } }) ∧
    (s.mdc.mode ≠ .holdup ∨ s.seq.cycle = some .selfRefreshEntry → s.mdc.mode ≠ .retain →
      exec .pwarnDeasserted s = .next { s.sending [] [] with pins := { s.pins with pwarn := false } })

/-- At the quiet point a pending commit is applied: the active set becomes the staged set; an unchanged rank keeps its debt,
timer and corrected count, any other starts anew; the scrub pointer stays on an unchanged rank and else goes to the lowest
enabled one; the scrub timer follows scrub enable (R88, R100, R102, R107, R143, R144). Without a pending commit or the quiet point
the command stands for no event, and that it changes nothing is the model's choice (DESIGN CHOICE, log entry 5). -/
def Obligations.CommitAppliedAtQuietPoint : Prop :=
  ∀ s : State,
    (s.cfg.pending = true → s.pq = [] → s.rt = [] → RowsFree s → s.seq.cycle = none →
      ∃ (rfs : Vector RankRefresh 4) (chk : Vector (BitVec 16) 4) (scr : Scrubber),
        exec .quietPointApplication s = .next { s.sending [] [] with
          cfg := { active := s.cfg.staged, staged := s.cfg.staged, pending := false, outcome := .applied }
          rfs := rfs, chk := chk, scr := scr } ∧
        (∀ n : Rank, UnchangedRank s.cfg.active s.cfg.staged n → rfs[n] = s.rfs[n] ∧ chk[n] = s.chk[n]) ∧
        (∀ n : Rank, ¬UnchangedRank s.cfg.active s.cfg.staged n → chk[n] = 0 ∧
          rfs[n].debt = 0 ∧
          rfs[n].timer = s.freshTimer s.cfg.staged.ranks[n].enable s.cfg.staged.refreshInterval.toNat) ∧
        scr.passCount = s.scr.passCount ∧
        (UnchangedRank s.cfg.active s.cfg.staged s.scr.rank → scr.rank = s.scr.rank ∧ scr.line = s.scr.line) ∧
        (∀ m : Rank, ¬UnchangedRank s.cfg.active s.cfg.staged s.scr.rank → LowestEnabled s.cfg.staged m →
          scr.rank = m ∧ scr.line = 0) ∧
        (s.cfg.staged.scrubEnable = false → scr.timer = .stopped ∧ scr.due = false) ∧
        (s.cfg.staged.scrubEnable = true → s.cfg.active.scrubEnable = true →
          scr.timer = s.scr.timer ∧ scr.due = s.scr.due) ∧
        (s.cfg.staged.scrubEnable = true → s.cfg.active.scrubEnable = false →
          scr.timer = .running (s.now + 10 * s.cfg.staged.scrubInterval.toNat) ∧ scr.due = false)) ∧
    (s.cfg.pending = false ∨ s.pq ≠ [] ∨ s.rt ≠ [] ∨ ¬RowsFree s ∨ s.seq.cycle ≠ none →
      exec .quietPointApplication s = .next (s.sending [] []))

/-! ## Resets -/

/-- Every reset leaves every block its reset values, with the straps sampled at it, and its reset record; a power-on reset
leaves the array COLD and its words unwritten (the form of that is the model's, log entry 1), the others keep the array
condition, and, if the SEQ was idle, the array; EXTERNAL_RESET asserts RST_N, and RST_N_DEASSERTED changes its level alone;
RESET acknowledges its byte (R148, R149, R150, R157, R166). EXTERNAL_RESET while RST_N is asserted, and RST_N_DEASSERTED while
it is not, stand for no event, and that they change nothing is the model's choice (DESIGN CHOICE, log entry 5). -/
def Obligations.ResetsLeaveResetValues : Prop :=
  (∀ (s : State) (p : PowerOnPins), ∃ t : State, exec (.powerOnReset p) s = .next t ∧ ResetValues t p.straps ∧
    t.seq.condition = .cold ∧ t.array = [] ∧ t.powerOns = s.powerOns + 1 ∧ t.pending = s.pending ∧ t.now = s.now ∧
    t.rsp = [] ∧ t.sda = [] ∧
    t.pins.pwarn = p.pwarnAsserted ∧ t.pins.rst = p.rstAsserted ∧
    t.mdc.record = { cause := .powerOn, modeAtReset := none, discarded := 0, writeCut := false, fillComplete := false }) ∧
  (∀ (s : State) (st : Straps), s.pins.rst = false → ∃ t : State, exec (.externalReset st) s = .next t ∧
    ResetValues t st ∧ t.seq.condition = s.seq.condition ∧ (s.seq.cycle = none → t.array = s.array) ∧
    t.powerOns = s.powerOns ∧ t.pending = s.pending ∧ t.now = s.now ∧ t.rsp = [] ∧ t.sda = [] ∧
    t.pins.pwarn = s.pins.pwarn ∧ t.pins.rst = true ∧ t.mdc.record = s.recordOf .external) ∧
  (∀ (s : State) (st : Straps), s.pins.rst = true → exec (.externalReset st) s = .next (s.sending [] [])) ∧
  (∀ s : State, exec .rstDeasserted s = .next { s.sending [] [] with pins := { s.pins with rst := false } }) ∧
  ∀ (s : State) (hi lo : Byte) (st : Straps), CommandAwaited s hi → lo.setWidth 4 = (7 : BitVec 4) →
    ∃ t : State, exec (.reset lo st) s = .next t ∧
      ResetValues t st ∧ t.seq.condition = s.seq.condition ∧ (s.seq.cycle = none → t.array = s.array) ∧
      t.powerOns = s.powerOns ∧ t.pending = s.pending ∧ t.now = s.now ∧ t.rsp = [] ∧ t.sda = [.ack] ∧
      t.pins.pwarn = s.pins.pwarn ∧ t.pins.rst = s.pins.rst ∧
      t.mdc.record = s.recordOf .maintenance

/-- A reset taken during a cycle leaves each word of the array either as it was or as the cycle's completion, taken then,
would have left it, and the log empty (R76, R77). Which of the two a word holds is a free value (DESIGN CHOICE, log entry 2),
and the content that the cycle would have given is that by the words as they stand then (DESIGN CHOICE, log entry 6). -/
def Obligations.ResetCutsCycle : Prop :=
  ∀ (s t u : State) (c : Cycle) (st : Straps) (hi lo : Byte) (i : Instr), QueueSound s →
    s.seq.cycle = some c → exec c.completion s = .next u →
    (i = .externalReset st ∧ s.pins.rst = false ∨
      i = .reset lo st ∧ CommandAwaited s hi ∧ lo.setWidth 4 = (7 : BitVec 4)) →
    exec i s = .next t →
    t.seq.cycle = none ∧ t.flg.records = [] ∧
    ∀ (r : Rank) (l : RankLine) (w : Fin 4), t.word r l w = s.word r l w ∨ t.word r l w = u.word r l w

/-! ## Commands of the maintenance port -/

/-- CLEAR_CORRECTED sets the count of the rank in the high byte to 0; POP_LOG removes the oldest record and re-evaluates
FAULT_N, or answers EMPTY; CLEAR_OVERFLOW makes the flag no. Each is taken in every mode, and changes nothing else but the
result (R99, R116, R117). -/
def Obligations.CountAndLogCommands : Prop :=
  ∀ (s : State) (hi lo : Byte), CommandAwaited s hi →
    (lo.setWidth 4 = (4 : BitVec 4) → ∃ chk : Vector (BitVec 16) 4,
      exec (.clearCorrected lo) s = .next { s.commandDone 4 .done with chk := chk } ∧
      ∀ n : Rank, chk[n] = if n.val = hi.toNat % 4 then 0 else s.chk[n]) ∧
    (lo.setWidth 4 = (2 : BitVec 4) →
      (s.flg.records = [] → exec (.popLog lo) s = .next (s.commandDone 2 .empty)) ∧
      ∀ x rest, s.flg.records = x :: rest → exec (.popLog lo) s = .next { s.commandDone 2 .done with
        flg := { s.flg with records := rest, line := s.flg.line && rest.any fun y => enabledIn s.flg.mask y.event } }) ∧
    (lo.setWidth 4 = (3 : BitVec 4) →
      exec (.clearOverflow lo) s = .next { s.commandDone 3 .done with flg := { s.flg with overflow := false } })

/-- FLUSH by the flush state and the queue (Table 3-5), COMMIT by mode, commit state and commit check (Table 9-2),
ABORT_COMMIT by commit state (R145), and a code that names no command (R164): the effect and the result of each. -/
def Obligations.FlushAndCommitCommands : Prop :=
  ∀ (s : State) (hi lo : Byte), CommandAwaited s hi →
    (lo.setWidth 4 = (1 : BitVec 4) →
      (s.ft.flush.active = true → exec (.flush lo) s = .next (s.commandDone 1 .busy)) ∧
      (s.ft.flush.active = false → s.pq = [] → exec (.flush lo) s = .next { s.commandDone 1 .done with
        ft := { s.ft with flush := { s.ft.flush with complete := true } } }) ∧
      (s.ft.flush.active = false → s.pq ≠ [] → exec (.flush lo) s = .next { s.commandDone 1 .done with
        pq := s.pq.map fun e => { e with flushed := true, isOpen := false }
        ft := { s.ft with flush := { active := true, remaining := s.pq.length, complete := false } } })) ∧
    (lo.setWidth 4 = (5 : BitVec 4) →
      (s.mdc.mode ≠ .run → exec (.commit lo) s = .next { s.commandDone 5 (.rejected .notRunning) with
        cfg := { s.cfg with outcome := .rejected .notRunning } }) ∧
      (s.mdc.mode = .run → s.cfg.pending = true → exec (.commit lo) s = .next (s.commandDone 5 .busy)) ∧
      (s.mdc.mode = .run → s.cfg.pending = false →
        (∀ r, commitCheck s.cfg.staged = some r → exec (.commit lo) s = .next { s.commandDone 5 (.rejected r) with
          cfg := { s.cfg with outcome := .rejected r } }) ∧
        (commitCheck s.cfg.staged = none → exec (.commit lo) s = .next { s.commandDone 5 .accepted with
          cfg := { s.cfg with pending := true, outcome := .accepted } }))) ∧
    (lo.setWidth 4 = (6 : BitVec 4) →
      (s.cfg.pending = true → exec (.abortCommit lo) s = .next { s.commandDone 6 .done with
        cfg := { s.cfg with pending := false, outcome := .aborted } }) ∧
      (s.cfg.pending = false → exec (.abortCommit lo) s = .next (s.commandDone 6 .notPending))) ∧
    ∀ code : BitVec 4, lo.setWidth 4 = code → (code = 0 ∨ 8 ≤ code.toNat) →
      exec (.unknownCommand lo) s = .next (s.commandDone code .unknown)

/-! ## The register window -/

/-- The bytes of a write transfer and the I2C conditions: a START answered at the device's own address alone, a STOP, the
pointer byte, the high byte by the register at the pointer (Table 11-6: taken at 0x08, at 0x0A and, with no commit pending,
at the staged registers; refused at these while one is, at the read-only registers, and where there is none), the byte after
a NACK, and a completed write of the fault enable register, which re-evaluates FAULT_N (R114, R115, R161, R162). Which row of
the table stands for which byte is DEDUCED (log entry 10). -/
def Obligations.RegisterTransferBytes : Prop :=
  ∀ (s : State) (b : Byte),
    (∀ (a : BitVec 7) (dir : Direction), s.pins.rst = false → a = s.mnt.address →
      exec (.startCondition a dir) s = .next { s.sending [] [.ack] with mnt := { s.mnt with
        transfer := match dir with
          | .write => .writePointer
          | .read => .readHigh } }) ∧
    (∀ (a : BitVec 7) (dir : Direction), s.pins.rst = true ∨ a ≠ s.mnt.address →
      exec (.startCondition a dir) s = .next { s.sending [] [] with mnt := { s.mnt with transfer := .idle } }) ∧
    exec .stopCondition s = .next { s.sending [] [] with mnt := { s.mnt with transfer := .idle } } ∧
    (s.mnt.transfer = .writePointer → exec (.registerPointerWrite b) s = .next { s.sending [] [.ack] with
      mnt := { s.mnt with pointer := b, transfer := .writeHigh } }) ∧
    (s.mnt.transfer = .writeHigh →
      s.mnt.pointer = 0x08 ∨ s.mnt.pointer = 0x0A ∨ StagedAddress s.mnt.pointer ∧ s.cfg.pending = false →
      exec (.registerWriteHighByte b) s = .next { s.sending [] [.ack] with
        mnt := { s.mnt with transfer := .writeLow b } }) ∧
    (s.mnt.transfer = .writeHigh →
      ReadOnlyAddress s.mnt.pointer ∨ AbsentAddress s.mnt.pointer ∨ StagedAddress s.mnt.pointer ∧ s.cfg.pending = true →
      exec (.registerWriteHighByte b) s = .next s.byteRefused ∧
      exec (.readOnlyRegisterWrite b) s = .next s.byteRefused) ∧
    (s.mnt.transfer = .writeIgnored →
      exec (.registerPointerWrite b) s = .next s.byteRefused ∧ exec (.registerWriteHighByte b) s = .next s.byteRefused ∧
      exec (.readOnlyRegisterWrite b) s = .next s.byteRefused ∧ exec (.stagedRegisterWrite b) s = .next s.byteRefused ∧
      exec (.faultEnableWrite b) s = .next s.byteRefused) ∧
    ∀ hi, s.mnt.transfer = .writeLow hi → s.mnt.pointer = 0x0A →
      exec (.faultEnableWrite b) s = .next { s.registerWritten with flg := { s.flg with
        mask := b.setWidth 6, line := s.flg.records.any fun x => enabledIn (b.setWidth 6) x.event } }

/-- A completed write of a staged register replaces the fields that Table 11-8 puts in it, legal or not, and no other; while
a commit is pending its low byte is refused and nothing changes (R136, R138, R162, R165). -/
def Obligations.StagedRegisterWrites : Prop :=
  ∀ (s : State) (hi lo : Byte) (v : BitVec 16), s.mnt.transfer = .writeLow hi → v = hi ++ lo →
    (s.cfg.pending = true → (∃ n : Rank, s.mnt.pointer.toNat = 0x30 + 4 * n.val ∨
        s.mnt.pointer.toNat = 0x31 + 4 * n.val ∨ s.mnt.pointer.toNat = 0x32 + 4 * n.val) ∨
        0x40 ≤ s.mnt.pointer.toNat ∧ s.mnt.pointer.toNat ≤ 0x46 →
      exec (.stagedRegisterWrite lo) s = .next s.byteRefused) ∧
    (s.cfg.pending = false →
      (∀ n : Rank, ∃ a b d : Vector RankSettings 4,
        (s.mnt.pointer.toNat = 0x30 + 4 * n.val → exec (.stagedRegisterWrite lo) s =
          .next { s.registerWritten with cfg := { s.cfg with staged := { s.cfg.staged with ranks := a } } }) ∧
        (s.mnt.pointer.toNat = 0x31 + 4 * n.val → exec (.stagedRegisterWrite lo) s =
          .next { s.registerWritten with cfg := { s.cfg with staged := { s.cfg.staged with ranks := b } } }) ∧
        (s.mnt.pointer.toNat = 0x32 + 4 * n.val → exec (.stagedRegisterWrite lo) s =
          .next { s.registerWritten with cfg := { s.cfg with staged := { s.cfg.staged with ranks := d } } }) ∧
        a[n].enable = v.getLsbD 0 ∧ a[n].size.lines = 4194304 * 2 ^ (v.extractLsb' 4 2).toNat ∧
        a[n].base = s.cfg.staged.ranks[n].base ∧
        b[n] = { s.cfg.staged.ranks[n] with
          base := v.extractLsb' 0 12 ++ s.cfg.staged.ranks[n].base.extractLsb' 0 16 } ∧
        d[n] = { s.cfg.staged.ranks[n] with base := s.cfg.staged.ranks[n].base.extractLsb' 16 12 ++ v } ∧
        ∀ m : Rank, m ≠ n → a[m] = s.cfg.staged.ranks[m] ∧ b[m] = s.cfg.staged.ranks[m] ∧
          d[m] = s.cfg.staged.ranks[m]) ∧
      ∀ c : Settings,
        (s.mnt.pointer = 0x40 ∧ c = { s.cfg.staged with
            refreshInterval := v.extractLsb' 0 8, urgentLevel := v.extractLsb' 8 4 } ∨
          s.mnt.pointer = 0x41 ∧ c = { s.cfg.staged with
            drainThreshold := v.extractLsb' 0 5, highMark := v.extractLsb' 8 5 } ∨
          s.mnt.pointer = 0x42 ∧ c = { s.cfg.staged with ageLimit := v.extractLsb' 0 8 } ∨
          s.mnt.pointer = 0x43 ∧ c = { s.cfg.staged with scrubEnable := v.getLsbD 0 } ∨
          s.mnt.pointer = 0x44 ∧ c = { s.cfg.staged with scrubInterval := v } ∨
          s.mnt.pointer = 0x45 ∧ c = { s.cfg.staged with correctedThreshold := v } ∨
          s.mnt.pointer = 0x46 ∧ c = { s.cfg.staged with holdupTime := v.extractLsb' 0 8 }) →
        exec (.stagedRegisterWrite lo) s = .next { s.registerWritten with cfg := { s.cfg with staged := c } })

/-- A read transfer sends the register at the pointer, high byte first, both bytes of the one value taken as the high byte
begins; at the first head record register that event takes the snapshot of the oldest record; after the low byte the
pointer rises by 1; nothing else changes (R118, R119, R163). That HEAD_RECORD_READ stands for the next byte of a read of
any register is DEDUCED (log entry 10). -/
def Obligations.RegisterReadBytes : Prop :=
  ∀ s : State,
    (s.mnt.transfer = .readHigh → s.mnt.pointer ≠ 0x0C → ∀ v, v = s.readRegister s.mnt.pointer →
      exec .headRecordRead s = .next { s.sending [] [.byte (v.extractLsb' 8 8)] with
        mnt := { s.mnt with transfer := .readLow (v.extractLsb' 0 8) } }) ∧
    (s.mnt.transfer = .readHigh → s.mnt.pointer = 0x0C →
      ∃ (h : HeadSnapshot) (v : BitVec 16),
        exec .headRecordRead s = .next { s.sending [] [.byte (v.extractLsb' 8 8)] with
          mnt := { s.mnt with transfer := .readLow (v.extractLsb' 0 8), snapshot := h } } ∧
        v.toNat = h.number.toNat + 256 * h.kind.toNat + 32768 * bitOf h.present ∧
        (s.flg.records = [] → h = { present := false, number := 0, kind := 0, rank := 0, line := 0, source := 0,
                                    words := 0, count := 0 }) ∧
        ∀ x rest, s.flg.records = x :: rest → h.present = true ∧ h.number = x.number ∧
          match x.event with
          | .correctedLimit n c => h.kind = 0 ∧ h.rank.toNat = n.val ∧ h.line = 0 ∧ h.source = 0 ∧ h.words = 0 ∧ h.count = c
          | .readUncorrectable n l q w =>
            h.kind = 1 ∧ h.rank.toNat = n.val ∧ h.line = l ∧ h.source.toNat = q.val ∧ h.words = w ∧ h.count = 0
          | .mergeUncorrectable n l q w =>
            h.kind = 2 ∧ h.rank.toNat = n.val ∧ h.line = l ∧ h.source.toNat = q.val ∧ h.words = w ∧ h.count = 0
          | .scrubUncorrectable n l w =>
            h.kind = 3 ∧ h.rank.toNat = n.val ∧ h.line = l ∧ h.source = 0 ∧ h.words = w ∧ h.count = 0
          | .refreshOverrun n =>
            h.kind = 4 ∧ h.rank.toNat = n.val ∧ h.line = 0 ∧ h.source = 0 ∧ h.words = 0 ∧ h.count = 0
          | .holdupDiscard k =>
            h.kind = 5 ∧ h.rank = 0 ∧ h.line = 0 ∧ h.source = 0 ∧ h.words = 0 ∧ (k ≤ 16 → h.count.toNat = k)) ∧
    ∀ b, s.mnt.transfer = .readLow b → exec .headRecordRead s = .next { s.sending [] [.byte b] with
      mnt := { s.mnt with pointer := s.mnt.pointer + 1, transfer := .readHigh } }

/-- What the registers show: each field at the bits that Table 11-8 gives it, every other bit 0, written as the sum of the
fields' values at their places, with the codes of R165 and Table 11-7; an address that holds no register reads as 0 (R163,
R165). -/
def Obligations.RegistersShowState : Prop :=
  [Mode.init, .fill, .run, .holdup, .retain, .resume].map Mode.code = [0, 1, 2, 3, 4, 5] ∧
  modeAtResetCode none = 7 ∧ (∀ m : Mode, modeAtResetCode (some m) = m.code) ∧
  [ResetCause.powerOn, .external, .maintenance].map ResetCause.code = [0, 1, 2] ∧
  [RecordKind.correctedLimit, .readUncorrectable, .mergeUncorrectable, .scrubUncorrectable, .refreshOverrun,
    .holdupDiscard].map RecordKind.code = [0, 1, 2, 3, 4, 5] ∧
  [RankSize.mib128, .mib256, .mib512, .mib1024].map RankSize.code = [0, 1, 2, 3] ∧
  [CommitReason.align, .space, .overlap, .noRank, .marks, .refresh, .urgent, .holdup, .scrub,
    .notRunning].map CommitReason.code = [1, 2, 3, 4, 5, 6, 7, 8, 9, 10] ∧
  (∀ (r : CommitReason) (cs : List CommitOutcome) (rs : List ResultCode),
    cs = [.none, .rejected r, .accepted, .applied, .aborted, .cancelled] →
    rs = [.none, .done, .empty, .busy, .accepted, .rejected r, .notPending, .unknown] →
    cs.map CommitOutcome.code = [0, 1, 2, 3, 4, 5] ∧ cs.map CommitOutcome.reasonCode = [0, r.code, 0, 0, 0, 0] ∧
    rs.map ResultCode.code = [0, 1, 2, 3, 4, 5, 6, 7] ∧ rs.map ResultCode.reasonCode = [0, 0, 0, 0, 0, r.code, 0, 0]) ∧
  (∀ (s : State) (a : BitVec 8), AbsentAddress a → s.readRegister a = 0) ∧
  ∀ s : State, s.pq.length ≤ 16 → s.rt.length ≤ 8 → s.ft.flush.remaining ≤ 16 → s.flg.records.length ≤ 8 →
    s.mdc.record.discarded ≤ 16 → (∀ n : Rank, s.rfs[n].debt ≤ 8) →
    s.readRegister 0x00 = 0x3A71 ∧ s.readRegister 0x01 = 0x0412 ∧ s.readRegister 0x02 = 0x0001 ∧
    s.readRegister 0x08 = 0 ∧
    (s.readRegister 0x04).toNat = s.mdc.mode.code + 256 * bitOf s.pins.pwarn ∧
    (s.readRegister 0x05).toNat = s.pq.length + 256 * s.rt.length +
      4096 * (Finset.univ.filter fun src : Source => s.ft.rows[src] ≠ .free).card ∧
    (s.readRegister 0x06).toNat = bitOf s.cfg.pending + 16 * s.cfg.outcome.code + 256 * s.cfg.outcome.reasonCode ∧
    (s.readRegister 0x07).toNat =
      bitOf s.ft.flush.active + 16 * s.ft.flush.remaining + 4096 * bitOf s.ft.flush.complete ∧
    (s.readRegister 0x09).toNat =
      s.mnt.result.result.code + 256 * s.mnt.result.result.reasonCode + 4096 * s.mnt.result.command.toNat ∧
    (s.readRegister 0x0A).toNat = s.flg.mask.toNat ∧
    (s.readRegister 0x0B).toNat = s.flg.records.length + 256 * bitOf s.flg.overflow ∧
    (s.readRegister 0x0D).toNat =
      s.mnt.snapshot.rank.toNat + 16 * s.mnt.snapshot.source.toNat + 256 * s.mnt.snapshot.words.toNat ∧
    (s.readRegister 0x0E).toNat = s.mnt.snapshot.line.toNat / 65536 ∧
    (s.readRegister 0x0F).toNat = s.mnt.snapshot.line.toNat % 65536 ∧
    s.readRegister 0x10 = s.mnt.snapshot.count ∧
    (s.readRegister 0x14).toNat = s.mdc.record.cause.code + 16 * modeAtResetCode s.mdc.record.modeAtReset +
      256 * s.mdc.record.discarded + 8192 * bitOf s.mdc.record.writeCut + 16384 * bitOf s.mdc.record.fillComplete ∧
    (∀ n : Rank, (s.readRegister (0x18 + BitVec.ofNat 8 n.val)).toNat = s.rfs[n].debt ∧
      s.readRegister (0x1C + BitVec.ofNat 8 n.val) = s.chk[n]) ∧
    (s.readRegister 0x20).toNat = s.scr.line.toNat / 65536 + 4096 * s.scr.rank.val ∧
    (s.readRegister 0x21).toNat = s.scr.line.toNat % 65536 ∧ s.readRegister 0x22 = s.scr.passCount ∧
    (s.readRegister 0x24).toNat = s.mdc.fillLine.toNat / 65536 + 4096 * s.mdc.fillRank.val ∧
    (s.readRegister 0x25).toNat = s.mdc.fillLine.toNat % 65536 ∧
    ∀ (c : Settings) (base : BitVec 8), base = 0 ∧ c = s.cfg.staged ∨ base = 0x40 ∧ c = s.cfg.active →
      (∀ n : Rank,
        (s.readRegister (base + 0x30 + BitVec.ofNat 8 (4 * n.val))).toNat =
          bitOf c.ranks[n].enable + 16 * c.ranks[n].size.code ∧
        (s.readRegister (base + 0x31 + BitVec.ofNat 8 (4 * n.val))).toNat = c.ranks[n].base.toNat / 65536 ∧
        (s.readRegister (base + 0x32 + BitVec.ofNat 8 (4 * n.val))).toNat = c.ranks[n].base.toNat % 65536) ∧
      (s.readRegister (base + 0x40)).toNat = c.refreshInterval.toNat + 256 * c.urgentLevel.toNat ∧
      (s.readRegister (base + 0x41)).toNat = c.drainThreshold.toNat + 256 * c.highMark.toNat ∧
      (s.readRegister (base + 0x42)).toNat = c.ageLimit.toNat ∧
      (s.readRegister (base + 0x43)).toNat = bitOf c.scrubEnable ∧
      s.readRegister (base + 0x44) = c.scrubInterval ∧ s.readRegister (base + 0x45) = c.correctedThreshold ∧
      (s.readRegister (base + 0x46)).toNat = c.holdupTime.toNat

/-! ## STORED_BIT_FLIP -/

/-- A flip changes one stored bit of one word, data or code, and no other bit, no other word and nothing else; what was
last written, and its form of code, stay (R91). The flipped code bits are a rising list (log entry 4). -/
def Obligations.StoredBitFlips : Prop :=
  ∀ (s : State) (r : Rank) (l : RankLine) (w : Fin 4) (b : StoredBit),
    ∃ (t : State) (arr : Memory), exec (.storedBitFlip r l w b) s = .next t ∧
      t = { s.sending [] [] with array := arr } ∧
      (t.word r l w).written = (s.word r l w).written ∧ (t.word r l w).code = (s.word r l w).code ∧
      (∀ i, b = .data i → (t.word r l w).codeFlips = (s.word r l w).codeFlips ∧
        ∀ j < 64, (t.word r l w).stored.getLsbD j = ((s.word r l w).stored.getLsbD j ^^ decide (j = i.val))) ∧
      (∀ i, b = .code i → (t.word r l w).stored = (s.word r l w).stored ∧
        ((s.word r l w).codeFlips.Pairwise (· < ·) → (t.word r l w).codeFlips.Pairwise (· < ·) ∧
          ∀ j, j ∈ (t.word r l w).codeFlips ↔ ¬(j ∈ (s.word r l w).codeFlips ↔ j = i))) ∧
      ∀ (r' : Rank) (l' : RankLine) (w' : Fin 4), ¬(r' = r ∧ l' = l ∧ w' = w) → t.word r' l' w' = s.word r' l' w'
end

