-- ==== Sys2Proof/Laws/Windows.lean ====
section
/-! SUPPORT. Laws/Windows.lean: the ranks of a set: the window of each, the rank that a line decodes to, and the next
and lowest enabled rank, in the terms of the statements. -/

namespace Sys2Proof.Machine

/-! ## The four ranks -/

theorem forall_rank (P : Rank → Prop) : (∀ n, P n) ↔ P 0 ∧ P 1 ∧ P 2 ∧ P 3 := by
  constructor
  · exact fun h => ⟨h 0, h 1, h 2, h 3⟩
  · rintro ⟨a, b, c, d⟩ n
    match n with
    | 0 => exact a
    | 1 => exact b
    | 2 => exact c
    | 3 => exact d

theorem exists_rank (P : Rank → Prop) : (∃ n, P n) ↔ P 0 ∨ P 1 ∨ P 2 ∨ P 3 := by
  constructor
  · rintro ⟨n, h⟩
    match n, h with
    | 0, h => exact .inl h
    | 1, h => exact .inr (.inl h)
    | 2, h => exact .inr (.inr (.inl h))
    | 3, h => exact .inr (.inr (.inr h))
  · rintro (h | h | h | h)
    exacts [⟨_, h⟩, ⟨_, h⟩, ⟨_, h⟩, ⟨_, h⟩]

/-! ## Windows (R65) -/

/-- The bounds of a rank's size in lines (Table 4-6). -/
theorem RankSize.lines_bounds (z : RankSize) : 4194304 ≤ z.lines ∧ z.lines ≤ 33554432 := by
  cases z <;> simp [RankSize.lines]

theorem RankSettings.holds_iff (r : RankSettings) (line : LineAddr) :
    r.holds line = true ↔
      r.enable = true ∧ r.base.toNat ≤ line.toNat ∧ line.toNat < r.base.toNat + r.size.lines := by
  simp [RankSettings.holds, and_assoc]

/-- The rank that a line decodes to holds the line. -/
theorem Settings.holds_of_rankOf {c : Settings} {line : LineAddr} {n : Rank} (h : c.rankOf line = some n) :
    c.ranks[n].holds line = true := by
  unfold Settings.rankOf at h
  split at h
  · cases h; assumption
  split at h
  · cases h; assumption
  split at h
  · cases h; assumption
  split at h
  · cases h; assumption
  cases h

theorem Settings.mapped_iff (c : Settings) (line : LineAddr) : c.mapped line = true ↔ ∃ n, c.rankOf line = some n := by
  simp [Settings.mapped, Option.isSome_iff_exists]

/-- The line number of a rank line: the line less the base, which no width cuts. -/
theorem Settings.rankLine_toNat {c : Settings} {line : LineAddr} {n : Rank} (h : c.rankOf line = some n) :
    (c.rankLine n line).toNat = line.toNat - c.ranks[n].base.toNat := by
  have hh := (RankSettings.holds_iff _ _).1 (Settings.holds_of_rankOf h)
  have hz := (RankSize.lines_bounds c.ranks[n].size).2
  rw [Settings.rankLine, BitVec.toNat_ofNat, Nat.mod_eq_of_lt (by omega)]

/-- Two lines of one rank with the same rank line are the same line. -/
theorem Settings.line_eq_of_rankLine {c : Settings} {n : Rank} {a b : LineAddr} (ha : c.rankOf a = some n)
    (hb : c.rankOf b = some n) (h : c.rankLine n a = c.rankLine n b) : a = b := by
  have h1 := (RankSettings.holds_iff _ _).1 (Settings.holds_of_rankOf ha)
  have h2 := (RankSettings.holds_iff _ _).1 (Settings.holds_of_rankOf hb)
  have h3 := congrArg BitVec.toNat h
  rw [Settings.rankLine_toNat ha, Settings.rankLine_toNat hb] at h3
  exact BitVec.eq_of_toNat_eq (by omega)

/-- Two windows inside the space overlap exactly if some line lies in both (R140, test 3). -/
theorem RankSettings.overlaps_false_iff {r t : RankSettings}
    (hr : r.enable = true → r.base.toNat + r.size.lines ≤ 134217728)
    (ht : t.enable = true → t.base.toNat + t.size.lines ≤ 134217728) :
    r.overlaps t = false ↔ ∀ line : LineAddr, ¬(r.holds line = true ∧ t.holds line = true) := by
  constructor
  · rintro h line ⟨h1, h2⟩
    rw [RankSettings.holds_iff] at h1 h2
    have : r.overlaps t = true := by
      simp only [RankSettings.overlaps, h1.1, h2.1, Bool.and_eq_true, decide_eq_true_eq, Bool.true_and]
      omega
    rw [this] at h
    cases h
  · intro h
    by_contra hc
    rw [Bool.not_eq_false] at hc
    simp only [RankSettings.overlaps, Bool.and_eq_true, decide_eq_true_eq] at hc
    obtain ⟨⟨⟨e1, e2⟩, h1⟩, h2⟩ := hc
    have p1 := (RankSize.lines_bounds r.size).1
    have p2 := (RankSize.lines_bounds t.size).1
    have q1 := hr e1
    have q2 := ht e2
    have hm : (BitVec.ofNat 27 (max r.base.toNat t.base.toNat)).toNat = max r.base.toNat t.base.toNat := by
      rw [BitVec.toNat_ofNat, Nat.mod_eq_of_lt (by omega)]
    refine h (BitVec.ofNat 27 (max r.base.toNat t.base.toNat)) ⟨?_, ?_⟩ <;>
      rw [RankSettings.holds_iff, hm]
    · exact ⟨e1, by omega, by omega⟩
    · exact ⟨e2, by omega, by omega⟩

/-! ## The tests of the commit check on ranks (Table 9-3) -/

theorem Settings.someRank_iff (c : Settings) (p : RankSettings → Bool) :
    c.someRank p = true ↔ ∃ n : Rank, p c.ranks[n] = true := by
  rw [exists_rank]
  simp [Settings.someRank, or_assoc]

theorem RankSettings.misaligned_iff (r : RankSettings) :
    r.misaligned = true ↔ r.enable = true ∧ ¬r.size.lines ∣ r.base.toNat := by
  simp [RankSettings.misaligned, Nat.dvd_iff_mod_eq_zero]

theorem RankSettings.beyondSpace_iff (r : RankSettings) :
    r.beyondSpace = true ↔ r.enable = true ∧ 134217728 < r.base.toNat + r.size.lines := by
  simp [RankSettings.beyondSpace]

/-- Two windows overlap exactly if some line number lies in both. -/
theorem RankSettings.overlaps_iff (r t : RankSettings) :
    r.overlaps t = true ↔ r.enable = true ∧ t.enable = true ∧ ∃ line : Nat,
      (r.base.toNat ≤ line ∧ line < r.base.toNat + r.size.lines) ∧
      (t.base.toNat ≤ line ∧ line < t.base.toNat + t.size.lines) := by
  have p1 := (RankSize.lines_bounds r.size).1
  have p2 := (RankSize.lines_bounds t.size).1
  simp only [RankSettings.overlaps, Bool.and_eq_true, decide_eq_true_eq]
  constructor
  · rintro ⟨⟨⟨e1, e2⟩, h1⟩, h2⟩
    exact ⟨e1, e2, max r.base.toNat t.base.toNat, by omega, by omega⟩
  · rintro ⟨e1, e2, line, h1, h2⟩
    exact ⟨⟨⟨e1, e2⟩, by omega⟩, by omega⟩

/-- Some two of the four ranks overlap. -/
theorem Settings.someOverlap_iff (c : Settings) :
    c.someOverlap = true ↔ ∃ n m : Rank, n < m ∧ c.ranks[n].overlaps c.ranks[m] = true := by
  simp only [exists_rank]
  simp [Settings.someOverlap, or_assoc]

/-! ## Enabled ranks (R105, R144) -/

theorem Settings.lowestRank_eq {c : Settings} {m : Rank} (h : LowestEnabled c m) : c.lowestRank = m := by
  obtain ⟨h1, h2⟩ := h
  unfold Settings.lowestRank
  have h0 := h2 0
  have h1' := h2 1
  have h2' := h2 2
  match m with
  | 0 => simp_all
  | 1 => simp_all
  | 2 => simp_all
  | 3 => simp_all

theorem Settings.nextRank_none {c : Settings} {n : Rank} (h : ∀ k, n < k → c.ranks[k].enable = false) :
    c.nextRank n = none := by
  unfold Settings.nextRank
  rw [List.find?_eq_none]
  intro k _
  by_cases hk : n < k
  · simpa [hk] using h k hk
  · simp [hk]

theorem Settings.nextRank_some {c : Settings} {n m : Rank} (h : NextEnabled c n m) : c.nextRank n = some m := by
  obtain ⟨h1, h2, h3⟩ := h
  have a := h3 0
  have b := h3 1
  have d := h3 2
  have e := h3 3
  simp only [Fin.getElem_fin, show ((0 : Fin 4) : Nat) = 0 from rfl, show ((1 : Fin 4) : Nat) = 1 from rfl,
    show ((2 : Fin 4) : Nat) = 2 from rfl, show ((3 : Fin 4) : Nat) = 3 from rfl] at *
  unfold Settings.nextRank
  fin_cases n <;> fin_cases m <;> simp_all [List.find?]

theorem rankUnchanged_iff (old new : Settings) (n : Rank) : rankUnchanged old new n = true ↔ UnchangedRank old new n := by
  simp [rankUnchanged, UnchangedRank, and_assoc]

end Sys2Proof.Machine
end

