-- ==== Sys2Proof/Laws/Claims.lean ====
section
/-! SUPPORT. Laws/Claims.lean: the conditions that the blocks compute (held pairs, drain, claims, the grant order), each
in the terms of the statements. -/

namespace Sys2Proof.Machine

/-! ## Rows and pairs -/

theorem FenceRow.isPending_false_iff (r : FenceRow) : r.isPending = false ↔ r = .free := by
  cases r <;> simp [FenceRow.isPending]

theorem State.rowsFree_iff (s : State) : s.rowsFree = true ↔ RowsFree s := by
  unfold State.rowsFree State.pendingRows RowsFree
  rw [beq_iff_eq, List.countP_eq_zero, forall_rank fun src => s.ft.rows[src] = .free]
  simp [FenceRow.isPending_false_iff]

theorem State.pairHeld_iff (s : State) (src : Source) (t : Tag) : s.pairHeld src t = true ↔ PairHeld s src t := by
  unfold State.pairHeld PairHeld
  rw [Bool.or_eq_true, List.any_eq_true]
  simp only [Bool.and_eq_true, beq_iff_eq]
  refine or_congr Iff.rfl ?_
  cases h : s.ft.rows[src] <;> simp [FenceRow.holdsTag]

theorem coalescesInto_iff (m : Request) (e : Entry) :
    coalescesInto m e = true ↔ e.isOpen = true ∧ e.source = m.source ∧ e.line = m.line := by
  simp [coalescesInto, and_assoc]

/-! ## Drain (R14, R15) -/

theorem State.drainPressing_iff (s : State) : s.drainPressing = true ↔ Pressing s := by
  have hr : s.rowsFree = false ↔ ∃ src : Source, s.ft.rows[src] ≠ .free := by
    rw [← Bool.not_eq_true, s.rowsFree_iff]
    simp [RowsFree]
  simp only [State.drainPressing, Bool.or_eq_true, decide_eq_true_eq, beq_iff_eq, Bool.not_eq_true', hr, Pressing,
    or_assoc]
  rfl

theorem State.headRipe_iff (s : State) : s.headRipe = true ↔ ∃ e ∈ s.pq.head?, e.ripe = true := by
  unfold State.headRipe
  cases s.pq.head? <;> simp

theorem State.drainCondition_pressing_iff (s : State) : s.drainCondition = .pressing ↔ Pressing s := by
  rw [← s.drainPressing_iff]
  unfold State.drainCondition
  split
  · simp [*]
  · rename_i h
    split <;> simp [h]

theorem State.drainCondition_due_iff (s : State) : s.drainCondition = .due ↔ ¬Pressing s ∧ ThresholdOrRipe s := by
  rw [← s.drainPressing_iff]
  unfold State.drainCondition ThresholdOrRipe
  split
  · simp [*]
  · rename_i h
    have hp : ¬s.drainPressing = true := h
    simp only [Bool.or_eq_true, decide_eq_true_eq, s.headRipe_iff]
    split
    · rename_i ht
      exact ⟨fun _ => ⟨hp, ht⟩, fun _ => rfl⟩
    · rename_i ht
      exact ⟨fun hc => absurd hc (by simp), fun hc => absurd hc.2 ht⟩

theorem State.drainClaim_pressing_iff (s : State) :
    s.drainClaim = some .pressing ↔ ∃ e ∈ s.pq.head?, e.state = .queued ∧ Pressing s := by
  rw [← s.drainCondition_pressing_iff]
  unfold State.drainClaim
  cases h : s.pq with
  | nil => simp
  | cons e rest => cases he : e.state <;> cases s.drainCondition <;> simp [Entry.isWriting, he]

theorem State.drainClaim_due_iff (s : State) :
    s.drainClaim = some .due ↔ ∃ e ∈ s.pq.head?, e.state = .queued ∧ ¬Pressing s ∧ ThresholdOrRipe s := by
  rw [← s.drainCondition_due_iff]
  unfold State.drainClaim
  cases h : s.pq with
  | nil => simp
  | cons e rest => cases he : e.state <;> cases s.drainCondition <;> simp [Entry.isWriting, he]

theorem State.drainClaim_ne_waiting (s : State) : s.drainClaim ≠ some .waiting := by
  unfold State.drainClaim
  split
  · simp
  · split
    · simp
    · cases s.drainCondition <;> simp

theorem State.drainClaim_ne_pressing {s : State} (h : NoPressingDrain s) : s.drainClaim ≠ some .pressing := by
  intro hc
  obtain ⟨e, he, hq, hp⟩ := s.drainClaim_pressing_iff.1 hc
  rcases h e he with h | h
  · rw [hq] at h; cases h
  · exact h hp

theorem State.drainClaim_none {s : State} (h : NoDrain s) : s.drainClaim = none := by
  cases hc : s.drainClaim with
  | none => rfl
  | some x =>
    cases x with
    | pressing =>
      obtain ⟨e, he, hq, hp⟩ := s.drainClaim_pressing_iff.1 hc
      rcases h e he with h | h
      · rw [hq] at h; cases h
      · exact absurd hp h.1
    | due =>
      obtain ⟨e, he, hq, -, ht⟩ := s.drainClaim_due_iff.1 hc
      rcases h e he with h | h
      · rw [hq] at h; cases h
      · exact absurd ht h.2
    | waiting => exact absurd hc s.drainClaim_ne_waiting

/-! ## Reads (R32) -/

theorem State.oldestWaiting_none {s : State} (h : NoneWaiting s) : s.oldestWaiting = none := by
  unfold State.oldestWaiting
  rw [List.find?_eq_none]
  intro x hx
  simp [h x hx]

/-! ## Refresh rows (Table 4-3) -/

theorem State.refreshIn_none {s : State} {p : Rank → Bool} (h : ∀ m, (s.refreshClaim m && p m) = false) :
    s.refreshIn p = none := by
  simp [State.refreshIn, h, State.higherDebt]

theorem State.higherDebt_eq {s : State} {a b : Option Rank} {n : Rank} (hn : a = some n ∨ b = some n)
    (ha : ∀ m, a = some m → RefreshBefore s n m) (hb : ∀ m, b = some m → RefreshBefore s n m) :
    s.higherDebt a b = some n := by
  unfold State.higherDebt
  match a, b with
  | none, y => rcases hn with h | h; · cases h
               · exact h
  | some x, none => rcases hn with h | h; · exact h
                    · cases h
  | some x, some y =>
    have h1 := ha x rfl
    have h2 := hb y rfl
    unfold RefreshBefore at h1 h2
    rcases hn with h | h <;> cases h <;> simp only []
    · split
      · omega
      · split
        · rfl
        · split
          · rfl
          · exfalso
            rename_i d
            rcases h2 with h2 | h2
            · omega
            · exact d h2.2
    · split
      · rfl
      · split
        · omega
        · split
          · rename_i d
            rcases h1 with h1 | h1
            · omega
            · rw [le_antisymm d h1.2]
          · rfl

theorem State.higherDebt_mem {s : State} {a b : Option Rank} {m : Rank} (h : s.higherDebt a b = some m) :
    a = some m ∨ b = some m := by
  unfold State.higherDebt at h
  split at h
  · exact .inr h
  · exact .inl h
  · split at h
    · exact .inr h
    · split at h
      · exact .inl h
      · split at h
        · exact .inl h
        · exact .inr h

/-- A refresh row takes the admitted rank that the tie rule puts before every other. -/
theorem State.refreshIn_some {s : State} {p : Rank → Bool} {n : Rank} (hn : (s.refreshClaim n && p n) = true)
    (h : ∀ m, (s.refreshClaim m && p m) = true → RefreshBefore s n m) : s.refreshIn p = some n := by
  unfold State.refreshIn
  simp only
  set r := fun n : Rank => if (s.refreshClaim n && p n) = true then some n else none with hr
  have hrn : r n = some n := by
    simp only [hr]
    rw [if_pos hn]
  have hm : ∀ k m, r k = some m → RefreshBefore s n m := by
    intro k m hk
    simp only [hr] at hk
    split at hk
    · cases hk
      exact h _ (by assumption)
    · cases hk
  have key : ∀ a b m, s.higherDebt (r a) (r b) = some m → RefreshBefore s n m := by
    intro a b m hab
    rcases State.higherDebt_mem hab with h | h <;> exact hm _ _ h
  match n, hrn, hm, key with
  | 0, hrn, hm, key =>
    exact State.higherDebt_eq (.inl (State.higherDebt_eq (.inl hrn) (hm 0) (hm 1))) (key 0 1) (key 2 3)
  | 1, hrn, hm, key =>
    exact State.higherDebt_eq (.inl (State.higherDebt_eq (.inr hrn) (hm 0) (hm 1))) (key 0 1) (key 2 3)
  | 2, hrn, hm, key =>
    exact State.higherDebt_eq (.inr (State.higherDebt_eq (.inl hrn) (hm 2) (hm 3))) (key 0 1) (key 2 3)
  | 3, hrn, hm, key =>
    exact State.higherDebt_eq (.inr (State.higherDebt_eq (.inr hrn) (hm 2) (hm 3))) (key 0 1) (key 2 3)

theorem State.urgentRank_iff {s : State} (hc : s.seq.cycle = none) (m : Rank) :
    (s.refreshClaim m && s.urgent m) = true ↔ UrgentRank s m := by
  simp [State.refreshClaim, State.urgent, UrgentRank, hc]

theorem State.refreshIn_urgent_none {s : State} (hc : s.seq.cycle = none) (h : ∀ m, ¬UrgentRank s m) :
    s.refreshIn s.urgent = none := by
  apply State.refreshIn_none
  intro m
  rw [← Bool.not_eq_true, State.urgentRank_iff hc]
  exact h m

/-! ## The grant (R60 to R62) -/

/-- On an ACTIVE array with no claim of row 1, a grant takes the first claim of rows 2 to 8. -/
theorem State.nextClaim_of_workGrantable {s : State} (h : WorkGrantable s) : s.nextClaim = s.grantableWork := by
  obtain ⟨h1, h2, h3⟩ := h
  have hc : s.seq.cycle = none := by rw [h1]
  have ha : s.seq.condition = .active := by rw [h1]
  have hi : s.idle = true := by simp [State.idle, hc]
  have hm : s.modeClaim = none := by
    unfold State.modeClaim
    rcases h3 with h3 | h3 | ⟨h3, h4⟩
    · rw [h3]
    · rw [h3]
    rw [h3]
    refine if_neg fun hr => ?_
    simp only [State.readyForEntry, Bool.and_eq_true, List.isEmpty_iff, s.rowsFree_iff] at hr
    exact h4 ⟨hr.1.1.1, hr.1.1.2, hr.1.2⟩
  simp [State.nextClaim, hi, h2, State.grantableMode, hm, ha]

theorem exec_grant_of_some {s : State} {c : Claim} (h : s.nextClaim = some c) :
    exec .grant s = .next (s.beginEvent.grantClaim c) := by
  have hb : s.beginEvent.nextClaim = s.nextClaim := rfl
  show execGrant s = _
  unfold execGrant
  simp only [hb, h]

theorem exec_grant_of_none {s : State} (h : s.nextClaim = none) : exec .grant s = .next s.beginEvent := by
  have hb : s.beginEvent.nextClaim = s.nextClaim := rfl
  show execGrant s = _
  unfold execGrant
  simp only [hb, h]

end Sys2Proof.Machine
end

