-- ==== Sys2Proof/Laws/State.lean ====
section
/-! SUPPORT. Laws/State.lean: for each update of the state that the meanings share, what it does to each field. -/

namespace Sys2Proof.Machine

/-! ### State.beginEvent: the start of an event -/

@[simp] theorem State.beginEvent_pending (s : State) : (s.beginEvent).pending = s.pending := rfl
@[simp] theorem State.beginEvent_pq (s : State) : (s.beginEvent).pq = s.pq := rfl
@[simp] theorem State.beginEvent_rt (s : State) : (s.beginEvent).rt = s.rt := rfl
@[simp] theorem State.beginEvent_ft (s : State) : (s.beginEvent).ft = s.ft := rfl
@[simp] theorem State.beginEvent_seq (s : State) : (s.beginEvent).seq = s.seq := rfl
@[simp] theorem State.beginEvent_rfs (s : State) : (s.beginEvent).rfs = s.rfs := rfl
@[simp] theorem State.beginEvent_chk (s : State) : (s.beginEvent).chk = s.chk := rfl
@[simp] theorem State.beginEvent_scr (s : State) : (s.beginEvent).scr = s.scr := rfl
@[simp] theorem State.beginEvent_flg (s : State) : (s.beginEvent).flg = s.flg := rfl
@[simp] theorem State.beginEvent_mdc (s : State) : (s.beginEvent).mdc = s.mdc := rfl
@[simp] theorem State.beginEvent_cfg (s : State) : (s.beginEvent).cfg = s.cfg := rfl
@[simp] theorem State.beginEvent_mnt (s : State) : (s.beginEvent).mnt = s.mnt := rfl
@[simp] theorem State.beginEvent_pins (s : State) : (s.beginEvent).pins = s.pins := rfl
@[simp] theorem State.beginEvent_array (s : State) : (s.beginEvent).array = s.array := rfl
@[simp] theorem State.beginEvent_rsp (s : State) : (s.beginEvent).rsp = [] := rfl
@[simp] theorem State.beginEvent_sda (s : State) : (s.beginEvent).sda = [] := rfl
@[simp] theorem State.beginEvent_now (s : State) : (s.beginEvent).now = s.now := rfl
@[simp] theorem State.beginEvent_powerOns (s : State) : (s.beginEvent).powerOns = s.powerOns := rfl
@[simp] theorem State.beginEvent_cuts (s : State) : (s.beginEvent).cuts = s.cuts := rfl

/-! ### State.send: one more response -/

@[simp] theorem State.send_pending (s : State) (r : Response) : (s.send r).pending = s.pending := rfl
@[simp] theorem State.send_pq (s : State) (r : Response) : (s.send r).pq = s.pq := rfl
@[simp] theorem State.send_rt (s : State) (r : Response) : (s.send r).rt = s.rt := rfl
@[simp] theorem State.send_ft (s : State) (r : Response) : (s.send r).ft = s.ft := rfl
@[simp] theorem State.send_seq (s : State) (r : Response) : (s.send r).seq = s.seq := rfl
@[simp] theorem State.send_rfs (s : State) (r : Response) : (s.send r).rfs = s.rfs := rfl
@[simp] theorem State.send_chk (s : State) (r : Response) : (s.send r).chk = s.chk := rfl
@[simp] theorem State.send_scr (s : State) (r : Response) : (s.send r).scr = s.scr := rfl
@[simp] theorem State.send_flg (s : State) (r : Response) : (s.send r).flg = s.flg := rfl
@[simp] theorem State.send_mdc (s : State) (r : Response) : (s.send r).mdc = s.mdc := rfl
@[simp] theorem State.send_cfg (s : State) (r : Response) : (s.send r).cfg = s.cfg := rfl
@[simp] theorem State.send_mnt (s : State) (r : Response) : (s.send r).mnt = s.mnt := rfl
@[simp] theorem State.send_pins (s : State) (r : Response) : (s.send r).pins = s.pins := rfl
@[simp] theorem State.send_array (s : State) (r : Response) : (s.send r).array = s.array := rfl
@[simp] theorem State.send_rsp (s : State) (r : Response) : (s.send r).rsp = s.rsp ++ [r] := rfl
@[simp] theorem State.send_sda (s : State) (r : Response) : (s.send r).sda = s.sda := rfl
@[simp] theorem State.send_now (s : State) (r : Response) : (s.send r).now = s.now := rfl
@[simp] theorem State.send_powerOns (s : State) (r : Response) : (s.send r).powerOns = s.powerOns := rfl
@[simp] theorem State.send_cuts (s : State) (r : Response) : (s.send r).cuts = s.cuts := rfl

/-! ### State.answer: the answer to a request -/

@[simp] theorem State.answer_pending (s : State) (k : BitVec 3) (m : Request) (a : Answer) : (s.answer k m a).pending = s.pending := rfl
@[simp] theorem State.answer_pq (s : State) (k : BitVec 3) (m : Request) (a : Answer) : (s.answer k m a).pq = s.pq := rfl
@[simp] theorem State.answer_rt (s : State) (k : BitVec 3) (m : Request) (a : Answer) : (s.answer k m a).rt = s.rt := rfl
@[simp] theorem State.answer_ft (s : State) (k : BitVec 3) (m : Request) (a : Answer) : (s.answer k m a).ft = s.ft := rfl
@[simp] theorem State.answer_seq (s : State) (k : BitVec 3) (m : Request) (a : Answer) : (s.answer k m a).seq = s.seq := rfl
@[simp] theorem State.answer_rfs (s : State) (k : BitVec 3) (m : Request) (a : Answer) : (s.answer k m a).rfs = s.rfs := rfl
@[simp] theorem State.answer_chk (s : State) (k : BitVec 3) (m : Request) (a : Answer) : (s.answer k m a).chk = s.chk := rfl
@[simp] theorem State.answer_scr (s : State) (k : BitVec 3) (m : Request) (a : Answer) : (s.answer k m a).scr = s.scr := rfl
@[simp] theorem State.answer_flg (s : State) (k : BitVec 3) (m : Request) (a : Answer) : (s.answer k m a).flg = s.flg := rfl
@[simp] theorem State.answer_mdc (s : State) (k : BitVec 3) (m : Request) (a : Answer) : (s.answer k m a).mdc = s.mdc := rfl
@[simp] theorem State.answer_cfg (s : State) (k : BitVec 3) (m : Request) (a : Answer) : (s.answer k m a).cfg = s.cfg := rfl
@[simp] theorem State.answer_mnt (s : State) (k : BitVec 3) (m : Request) (a : Answer) : (s.answer k m a).mnt = s.mnt := rfl
@[simp] theorem State.answer_pins (s : State) (k : BitVec 3) (m : Request) (a : Answer) : (s.answer k m a).pins = s.pins := rfl
@[simp] theorem State.answer_array (s : State) (k : BitVec 3) (m : Request) (a : Answer) : (s.answer k m a).array = s.array := rfl
@[simp] theorem State.answer_rsp (s : State) (k : BitVec 3) (m : Request) (a : Answer) : (s.answer k m a).rsp = s.rsp ++ [{ kind := k, source := m.source, tag := m.tag, answer := a }] := rfl
@[simp] theorem State.answer_sda (s : State) (k : BitVec 3) (m : Request) (a : Answer) : (s.answer k m a).sda = s.sda := rfl
@[simp] theorem State.answer_now (s : State) (k : BitVec 3) (m : Request) (a : Answer) : (s.answer k m a).now = s.now := rfl
@[simp] theorem State.answer_powerOns (s : State) (k : BitVec 3) (m : Request) (a : Answer) : (s.answer k m a).powerOns = s.powerOns := rfl
@[simp] theorem State.answer_cuts (s : State) (k : BitVec 3) (m : Request) (a : Answer) : (s.answer k m a).cuts = s.cuts := rfl

/-! ### State.signal: one more signal on SDA -/

@[simp] theorem State.signal_pending (s : State) (x : SdaSignal) : (s.signal x).pending = s.pending := rfl
@[simp] theorem State.signal_pq (s : State) (x : SdaSignal) : (s.signal x).pq = s.pq := rfl
@[simp] theorem State.signal_rt (s : State) (x : SdaSignal) : (s.signal x).rt = s.rt := rfl
@[simp] theorem State.signal_ft (s : State) (x : SdaSignal) : (s.signal x).ft = s.ft := rfl
@[simp] theorem State.signal_seq (s : State) (x : SdaSignal) : (s.signal x).seq = s.seq := rfl
@[simp] theorem State.signal_rfs (s : State) (x : SdaSignal) : (s.signal x).rfs = s.rfs := rfl
@[simp] theorem State.signal_chk (s : State) (x : SdaSignal) : (s.signal x).chk = s.chk := rfl
@[simp] theorem State.signal_scr (s : State) (x : SdaSignal) : (s.signal x).scr = s.scr := rfl
@[simp] theorem State.signal_flg (s : State) (x : SdaSignal) : (s.signal x).flg = s.flg := rfl
@[simp] theorem State.signal_mdc (s : State) (x : SdaSignal) : (s.signal x).mdc = s.mdc := rfl
@[simp] theorem State.signal_cfg (s : State) (x : SdaSignal) : (s.signal x).cfg = s.cfg := rfl
@[simp] theorem State.signal_mnt (s : State) (x : SdaSignal) : (s.signal x).mnt = s.mnt := rfl
@[simp] theorem State.signal_pins (s : State) (x : SdaSignal) : (s.signal x).pins = s.pins := rfl
@[simp] theorem State.signal_array (s : State) (x : SdaSignal) : (s.signal x).array = s.array := rfl
@[simp] theorem State.signal_rsp (s : State) (x : SdaSignal) : (s.signal x).rsp = s.rsp := rfl
@[simp] theorem State.signal_sda (s : State) (x : SdaSignal) : (s.signal x).sda = s.sda ++ [x] := rfl
@[simp] theorem State.signal_now (s : State) (x : SdaSignal) : (s.signal x).now = s.now := rfl
@[simp] theorem State.signal_powerOns (s : State) (x : SdaSignal) : (s.signal x).powerOns = s.powerOns := rfl
@[simp] theorem State.signal_cuts (s : State) (x : SdaSignal) : (s.signal x).cuts = s.cuts := rfl

/-! ### State.fault: a fault event -/

@[simp] theorem State.fault_pending (s : State) (e : FaultEvent) : (s.fault e).pending = s.pending := rfl
@[simp] theorem State.fault_pq (s : State) (e : FaultEvent) : (s.fault e).pq = s.pq := rfl
@[simp] theorem State.fault_rt (s : State) (e : FaultEvent) : (s.fault e).rt = s.rt := rfl
@[simp] theorem State.fault_ft (s : State) (e : FaultEvent) : (s.fault e).ft = s.ft := rfl
@[simp] theorem State.fault_seq (s : State) (e : FaultEvent) : (s.fault e).seq = s.seq := rfl
@[simp] theorem State.fault_rfs (s : State) (e : FaultEvent) : (s.fault e).rfs = s.rfs := rfl
@[simp] theorem State.fault_chk (s : State) (e : FaultEvent) : (s.fault e).chk = s.chk := rfl
@[simp] theorem State.fault_scr (s : State) (e : FaultEvent) : (s.fault e).scr = s.scr := rfl
@[simp] theorem State.fault_flg (s : State) (e : FaultEvent) : (s.fault e).flg = s.flg.take e := rfl
@[simp] theorem State.fault_mdc (s : State) (e : FaultEvent) : (s.fault e).mdc = s.mdc := rfl
@[simp] theorem State.fault_cfg (s : State) (e : FaultEvent) : (s.fault e).cfg = s.cfg := rfl
@[simp] theorem State.fault_mnt (s : State) (e : FaultEvent) : (s.fault e).mnt = s.mnt := rfl
@[simp] theorem State.fault_pins (s : State) (e : FaultEvent) : (s.fault e).pins = s.pins := rfl
@[simp] theorem State.fault_array (s : State) (e : FaultEvent) : (s.fault e).array = s.array := rfl
@[simp] theorem State.fault_rsp (s : State) (e : FaultEvent) : (s.fault e).rsp = s.rsp := rfl
@[simp] theorem State.fault_sda (s : State) (e : FaultEvent) : (s.fault e).sda = s.sda := rfl
@[simp] theorem State.fault_now (s : State) (e : FaultEvent) : (s.fault e).now = s.now := rfl
@[simp] theorem State.fault_powerOns (s : State) (e : FaultEvent) : (s.fault e).powerOns = s.powerOns := rfl
@[simp] theorem State.fault_cuts (s : State) (e : FaultEvent) : (s.fault e).cuts = s.cuts := rfl

/-! ### State.coalesce: a coalescing WRITE -/

@[simp] theorem State.coalesce_pending (s : State) (m : Request) : (s.coalesce m).pending = s.pending := rfl
@[simp] theorem State.coalesce_pq (s : State) (m : Request) : (s.coalesce m).pq = s.pq.map fun e => if coalescesInto m e then e.coalesced m else e := rfl
@[simp] theorem State.coalesce_rt (s : State) (m : Request) : (s.coalesce m).rt = s.rt := rfl
@[simp] theorem State.coalesce_ft (s : State) (m : Request) : (s.coalesce m).ft = s.ft := rfl
@[simp] theorem State.coalesce_seq (s : State) (m : Request) : (s.coalesce m).seq = s.seq := rfl
@[simp] theorem State.coalesce_rfs (s : State) (m : Request) : (s.coalesce m).rfs = s.rfs := rfl
@[simp] theorem State.coalesce_chk (s : State) (m : Request) : (s.coalesce m).chk = s.chk := rfl
@[simp] theorem State.coalesce_scr (s : State) (m : Request) : (s.coalesce m).scr = s.scr := rfl
@[simp] theorem State.coalesce_flg (s : State) (m : Request) : (s.coalesce m).flg = s.flg := rfl
@[simp] theorem State.coalesce_mdc (s : State) (m : Request) : (s.coalesce m).mdc = s.mdc := rfl
@[simp] theorem State.coalesce_cfg (s : State) (m : Request) : (s.coalesce m).cfg = s.cfg := rfl
@[simp] theorem State.coalesce_mnt (s : State) (m : Request) : (s.coalesce m).mnt = s.mnt := rfl
@[simp] theorem State.coalesce_pins (s : State) (m : Request) : (s.coalesce m).pins = s.pins := rfl
@[simp] theorem State.coalesce_array (s : State) (m : Request) : (s.coalesce m).array = s.array := rfl
@[simp] theorem State.coalesce_rsp (s : State) (m : Request) : (s.coalesce m).rsp = s.rsp := rfl
@[simp] theorem State.coalesce_sda (s : State) (m : Request) : (s.coalesce m).sda = s.sda := rfl
@[simp] theorem State.coalesce_now (s : State) (m : Request) : (s.coalesce m).now = s.now := rfl
@[simp] theorem State.coalesce_powerOns (s : State) (m : Request) : (s.coalesce m).powerOns = s.powerOns := rfl
@[simp] theorem State.coalesce_cuts (s : State) (m : Request) : (s.coalesce m).cuts = s.cuts := rfl

/-! ### State.append: an appended WRITE -/

@[simp] theorem State.append_pending (s : State) (m : Request) : (s.append m).pending = s.pending := rfl
@[simp] theorem State.append_pq (s : State) (m : Request) : (s.append m).pq = (s.pq.map fun e => if e.source = m.source then e.close else e) ++ [newEntry m s.cfg.active.ageTime s.now] := rfl
@[simp] theorem State.append_rt (s : State) (m : Request) : (s.append m).rt = s.rt := rfl
@[simp] theorem State.append_ft (s : State) (m : Request) : (s.append m).ft = s.ft := rfl
@[simp] theorem State.append_seq (s : State) (m : Request) : (s.append m).seq = s.seq := rfl
@[simp] theorem State.append_rfs (s : State) (m : Request) : (s.append m).rfs = s.rfs := rfl
@[simp] theorem State.append_chk (s : State) (m : Request) : (s.append m).chk = s.chk := rfl
@[simp] theorem State.append_scr (s : State) (m : Request) : (s.append m).scr = s.scr := rfl
@[simp] theorem State.append_flg (s : State) (m : Request) : (s.append m).flg = s.flg := rfl
@[simp] theorem State.append_mdc (s : State) (m : Request) : (s.append m).mdc = s.mdc := rfl
@[simp] theorem State.append_cfg (s : State) (m : Request) : (s.append m).cfg = s.cfg := rfl
@[simp] theorem State.append_mnt (s : State) (m : Request) : (s.append m).mnt = s.mnt := rfl
@[simp] theorem State.append_pins (s : State) (m : Request) : (s.append m).pins = s.pins := rfl
@[simp] theorem State.append_array (s : State) (m : Request) : (s.append m).array = s.array := rfl
@[simp] theorem State.append_rsp (s : State) (m : Request) : (s.append m).rsp = s.rsp := rfl
@[simp] theorem State.append_sda (s : State) (m : Request) : (s.append m).sda = s.sda := rfl
@[simp] theorem State.append_now (s : State) (m : Request) : (s.append m).now = s.now := rfl
@[simp] theorem State.append_powerOns (s : State) (m : Request) : (s.append m).powerOns = s.powerOns := rfl
@[simp] theorem State.append_cuts (s : State) (m : Request) : (s.append m).cuts = s.cuts := rfl

/-! ### State.report: a report to the FT -/

@[simp] theorem State.report_pending (s : State) (r : Report) : (s.report r).pending = s.pending := rfl
@[simp] theorem State.report_pq (s : State) (r : Report) : (s.report r).pq = s.pq := rfl
@[simp] theorem State.report_rt (s : State) (r : Report) : (s.report r).rt = s.rt := rfl
@[simp] theorem State.report_ft (s : State) (r : Report) : (s.report r).ft = { rows := if r.fenced then s.ft.rows.set r.source (s.ft.rows[r.source].counted r) else s.ft.rows, flush := if r.flushed then s.ft.flush.counted else s.ft.flush } := rfl
@[simp] theorem State.report_seq (s : State) (r : Report) : (s.report r).seq = s.seq := rfl
@[simp] theorem State.report_rfs (s : State) (r : Report) : (s.report r).rfs = s.rfs := rfl
@[simp] theorem State.report_chk (s : State) (r : Report) : (s.report r).chk = s.chk := rfl
@[simp] theorem State.report_scr (s : State) (r : Report) : (s.report r).scr = s.scr := rfl
@[simp] theorem State.report_flg (s : State) (r : Report) : (s.report r).flg = s.flg := rfl
@[simp] theorem State.report_mdc (s : State) (r : Report) : (s.report r).mdc = s.mdc := rfl
@[simp] theorem State.report_cfg (s : State) (r : Report) : (s.report r).cfg = s.cfg := rfl
@[simp] theorem State.report_mnt (s : State) (r : Report) : (s.report r).mnt = s.mnt := rfl
@[simp] theorem State.report_pins (s : State) (r : Report) : (s.report r).pins = s.pins := rfl
@[simp] theorem State.report_array (s : State) (r : Report) : (s.report r).array = s.array := rfl
@[simp] theorem State.report_rsp (s : State) (r : Report) : (s.report r).rsp = s.rsp ++ if r.fenced then s.ft.rows[r.source].done r else [] := rfl
@[simp] theorem State.report_sda (s : State) (r : Report) : (s.report r).sda = s.sda := rfl
@[simp] theorem State.report_now (s : State) (r : Report) : (s.report r).now = s.now := rfl
@[simp] theorem State.report_powerOns (s : State) (r : Report) : (s.report r).powerOns = s.powerOns := rfl
@[simp] theorem State.report_cuts (s : State) (r : Report) : (s.report r).cuts = s.cuts := rfl

/-! ### State.refuseWaiting: the refusal of the WAITING reads -/

@[simp] theorem State.refuseWaiting_pending (s : State) : (s.refuseWaiting).pending = s.pending := rfl
@[simp] theorem State.refuseWaiting_pq (s : State) : (s.refuseWaiting).pq = s.pq := rfl
@[simp] theorem State.refuseWaiting_rt (s : State) : (s.refuseWaiting).rt = s.rt.filter fun r => !r.isWaiting := rfl
@[simp] theorem State.refuseWaiting_ft (s : State) : (s.refuseWaiting).ft = s.ft := rfl
@[simp] theorem State.refuseWaiting_seq (s : State) : (s.refuseWaiting).seq = s.seq := rfl
@[simp] theorem State.refuseWaiting_rfs (s : State) : (s.refuseWaiting).rfs = s.rfs := rfl
@[simp] theorem State.refuseWaiting_chk (s : State) : (s.refuseWaiting).chk = s.chk := rfl
@[simp] theorem State.refuseWaiting_scr (s : State) : (s.refuseWaiting).scr = s.scr := rfl
@[simp] theorem State.refuseWaiting_flg (s : State) : (s.refuseWaiting).flg = s.flg := rfl
@[simp] theorem State.refuseWaiting_mdc (s : State) : (s.refuseWaiting).mdc = s.mdc := rfl
@[simp] theorem State.refuseWaiting_cfg (s : State) : (s.refuseWaiting).cfg = s.cfg := rfl
@[simp] theorem State.refuseWaiting_mnt (s : State) : (s.refuseWaiting).mnt = s.mnt := rfl
@[simp] theorem State.refuseWaiting_pins (s : State) : (s.refuseWaiting).pins = s.pins := rfl
@[simp] theorem State.refuseWaiting_array (s : State) : (s.refuseWaiting).array = s.array := rfl
@[simp] theorem State.refuseWaiting_rsp (s : State) : (s.refuseWaiting).rsp = s.rsp ++ (s.rt.filter ReadRecord.isWaiting).map fun r => r.answered (.refuse .halted) := rfl
@[simp] theorem State.refuseWaiting_sda (s : State) : (s.refuseWaiting).sda = s.sda := rfl
@[simp] theorem State.refuseWaiting_now (s : State) : (s.refuseWaiting).now = s.now := rfl
@[simp] theorem State.refuseWaiting_powerOns (s : State) : (s.refuseWaiting).powerOns = s.powerOns := rfl
@[simp] theorem State.refuseWaiting_cuts (s : State) : (s.refuseWaiting).cuts = s.cuts := rfl

/-! ### State.startCycle: the start of a cycle -/

@[simp] theorem State.startCycle_pending (s : State) (c : Cycle) : (s.startCycle c).pending = s.pending := rfl
@[simp] theorem State.startCycle_pq (s : State) (c : Cycle) : (s.startCycle c).pq = s.pq := rfl
@[simp] theorem State.startCycle_rt (s : State) (c : Cycle) : (s.startCycle c).rt = s.rt := rfl
@[simp] theorem State.startCycle_ft (s : State) (c : Cycle) : (s.startCycle c).ft = s.ft := rfl
@[simp] theorem State.startCycle_seq (s : State) (c : Cycle) : (s.startCycle c).seq = { s.seq with cycle := some c } := rfl
@[simp] theorem State.startCycle_rfs (s : State) (c : Cycle) : (s.startCycle c).rfs = s.rfs := rfl
@[simp] theorem State.startCycle_chk (s : State) (c : Cycle) : (s.startCycle c).chk = s.chk := rfl
@[simp] theorem State.startCycle_scr (s : State) (c : Cycle) : (s.startCycle c).scr = s.scr := rfl
@[simp] theorem State.startCycle_flg (s : State) (c : Cycle) : (s.startCycle c).flg = s.flg := rfl
@[simp] theorem State.startCycle_mdc (s : State) (c : Cycle) : (s.startCycle c).mdc = s.mdc := rfl
@[simp] theorem State.startCycle_cfg (s : State) (c : Cycle) : (s.startCycle c).cfg = s.cfg := rfl
@[simp] theorem State.startCycle_mnt (s : State) (c : Cycle) : (s.startCycle c).mnt = s.mnt := rfl
@[simp] theorem State.startCycle_pins (s : State) (c : Cycle) : (s.startCycle c).pins = s.pins := rfl
@[simp] theorem State.startCycle_array (s : State) (c : Cycle) : (s.startCycle c).array = s.array := rfl
@[simp] theorem State.startCycle_rsp (s : State) (c : Cycle) : (s.startCycle c).rsp = s.rsp := rfl
@[simp] theorem State.startCycle_sda (s : State) (c : Cycle) : (s.startCycle c).sda = s.sda := rfl
@[simp] theorem State.startCycle_now (s : State) (c : Cycle) : (s.startCycle c).now = s.now := rfl
@[simp] theorem State.startCycle_powerOns (s : State) (c : Cycle) : (s.startCycle c).powerOns = s.powerOns := rfl
@[simp] theorem State.startCycle_cuts (s : State) (c : Cycle) : (s.startCycle c).cuts = s.cuts := rfl

/-! ### State.endCycle: the end of a cycle -/

@[simp] theorem State.endCycle_pending (s : State) : (s.endCycle).pending = s.pending := rfl
@[simp] theorem State.endCycle_pq (s : State) : (s.endCycle).pq = s.pq := rfl
@[simp] theorem State.endCycle_rt (s : State) : (s.endCycle).rt = s.rt := rfl
@[simp] theorem State.endCycle_ft (s : State) : (s.endCycle).ft = s.ft := rfl
@[simp] theorem State.endCycle_seq (s : State) : (s.endCycle).seq = { s.seq with cycle := none } := rfl
@[simp] theorem State.endCycle_rfs (s : State) : (s.endCycle).rfs = s.rfs := rfl
@[simp] theorem State.endCycle_chk (s : State) : (s.endCycle).chk = s.chk := rfl
@[simp] theorem State.endCycle_scr (s : State) : (s.endCycle).scr = s.scr := rfl
@[simp] theorem State.endCycle_flg (s : State) : (s.endCycle).flg = s.flg := rfl
@[simp] theorem State.endCycle_mdc (s : State) : (s.endCycle).mdc = s.mdc := rfl
@[simp] theorem State.endCycle_cfg (s : State) : (s.endCycle).cfg = s.cfg := rfl
@[simp] theorem State.endCycle_mnt (s : State) : (s.endCycle).mnt = s.mnt := rfl
@[simp] theorem State.endCycle_pins (s : State) : (s.endCycle).pins = s.pins := rfl
@[simp] theorem State.endCycle_array (s : State) : (s.endCycle).array = s.array := rfl
@[simp] theorem State.endCycle_rsp (s : State) : (s.endCycle).rsp = s.rsp := rfl
@[simp] theorem State.endCycle_sda (s : State) : (s.endCycle).sda = s.sda := rfl
@[simp] theorem State.endCycle_now (s : State) : (s.endCycle).now = s.now := rfl
@[simp] theorem State.endCycle_powerOns (s : State) : (s.endCycle).powerOns = s.powerOns := rfl
@[simp] theorem State.endCycle_cuts (s : State) : (s.endCycle).cuts = s.cuts := rfl

/-! ### State.setCondition: a change of the array condition -/

@[simp] theorem State.setCondition_pending (s : State) (c : ArrayCondition) : (s.setCondition c).pending = s.pending := rfl
@[simp] theorem State.setCondition_pq (s : State) (c : ArrayCondition) : (s.setCondition c).pq = s.pq := rfl
@[simp] theorem State.setCondition_rt (s : State) (c : ArrayCondition) : (s.setCondition c).rt = s.rt := rfl
@[simp] theorem State.setCondition_ft (s : State) (c : ArrayCondition) : (s.setCondition c).ft = s.ft := rfl
@[simp] theorem State.setCondition_seq (s : State) (c : ArrayCondition) : (s.setCondition c).seq = { s.seq with condition := c } := rfl
@[simp] theorem State.setCondition_rfs (s : State) (c : ArrayCondition) : (s.setCondition c).rfs = s.rfs := rfl
@[simp] theorem State.setCondition_chk (s : State) (c : ArrayCondition) : (s.setCondition c).chk = s.chk := rfl
@[simp] theorem State.setCondition_scr (s : State) (c : ArrayCondition) : (s.setCondition c).scr = s.scr := rfl
@[simp] theorem State.setCondition_flg (s : State) (c : ArrayCondition) : (s.setCondition c).flg = s.flg := rfl
@[simp] theorem State.setCondition_mdc (s : State) (c : ArrayCondition) : (s.setCondition c).mdc = s.mdc := rfl
@[simp] theorem State.setCondition_cfg (s : State) (c : ArrayCondition) : (s.setCondition c).cfg = s.cfg := rfl
@[simp] theorem State.setCondition_mnt (s : State) (c : ArrayCondition) : (s.setCondition c).mnt = s.mnt := rfl
@[simp] theorem State.setCondition_pins (s : State) (c : ArrayCondition) : (s.setCondition c).pins = s.pins := rfl
@[simp] theorem State.setCondition_array (s : State) (c : ArrayCondition) : (s.setCondition c).array = s.array := rfl
@[simp] theorem State.setCondition_rsp (s : State) (c : ArrayCondition) : (s.setCondition c).rsp = s.rsp := rfl
@[simp] theorem State.setCondition_sda (s : State) (c : ArrayCondition) : (s.setCondition c).sda = s.sda := rfl
@[simp] theorem State.setCondition_now (s : State) (c : ArrayCondition) : (s.setCondition c).now = s.now := rfl
@[simp] theorem State.setCondition_powerOns (s : State) (c : ArrayCondition) : (s.setCondition c).powerOns = s.powerOns := rfl
@[simp] theorem State.setCondition_cuts (s : State) (c : ArrayCondition) : (s.setCondition c).cuts = s.cuts := rfl

/-! ### State.finishWords: the writing of a cycle's words -/

@[simp] theorem State.finishWords_pending (s : State) : (s.finishWords).pending = s.pending := rfl
@[simp] theorem State.finishWords_pq (s : State) : (s.finishWords).pq = s.pq := rfl
@[simp] theorem State.finishWords_rt (s : State) : (s.finishWords).rt = s.rt := rfl
@[simp] theorem State.finishWords_ft (s : State) : (s.finishWords).ft = s.ft := rfl
@[simp] theorem State.finishWords_seq (s : State) : (s.finishWords).seq = s.seq := rfl
@[simp] theorem State.finishWords_rfs (s : State) : (s.finishWords).rfs = s.rfs := rfl
@[simp] theorem State.finishWords_chk (s : State) : (s.finishWords).chk = s.chk := rfl
@[simp] theorem State.finishWords_scr (s : State) : (s.finishWords).scr = s.scr := rfl
@[simp] theorem State.finishWords_flg (s : State) : (s.finishWords).flg = s.flg := rfl
@[simp] theorem State.finishWords_mdc (s : State) : (s.finishWords).mdc = s.mdc := rfl
@[simp] theorem State.finishWords_cfg (s : State) : (s.finishWords).cfg = s.cfg := rfl
@[simp] theorem State.finishWords_mnt (s : State) : (s.finishWords).mnt = s.mnt := rfl
@[simp] theorem State.finishWords_pins (s : State) : (s.finishWords).pins = s.pins := rfl
@[simp] theorem State.finishWords_array (s : State) : (s.finishWords).array = s.arrayAfterCycle fun _ => true := rfl
@[simp] theorem State.finishWords_rsp (s : State) : (s.finishWords).rsp = s.rsp := rfl
@[simp] theorem State.finishWords_sda (s : State) : (s.finishWords).sda = s.sda := rfl
@[simp] theorem State.finishWords_now (s : State) : (s.finishWords).now = s.now := rfl
@[simp] theorem State.finishWords_powerOns (s : State) : (s.finishWords).powerOns = s.powerOns := rfl
@[simp] theorem State.finishWords_cuts (s : State) : (s.finishWords).cuts = s.cuts := rfl

/-! ### State.startTicks: the fresh start of the tick timers -/

@[simp] theorem State.startTicks_pending (s : State) : (s.startTicks).pending = s.pending := rfl
@[simp] theorem State.startTicks_pq (s : State) : (s.startTicks).pq = s.pq := rfl
@[simp] theorem State.startTicks_rt (s : State) : (s.startTicks).rt = s.rt := rfl
@[simp] theorem State.startTicks_ft (s : State) : (s.startTicks).ft = s.ft := rfl
@[simp] theorem State.startTicks_seq (s : State) : (s.startTicks).seq = s.seq := rfl
@[simp] theorem State.startTicks_rfs (s : State) : (s.startTicks).rfs = Vector.ofFn fun n : Rank => { s.rfs[n] with timer := if s.cfg.active.ranks[n].enable then .running (s.now + s.cfg.active.refreshTime) else .stopped } := rfl
@[simp] theorem State.startTicks_chk (s : State) : (s.startTicks).chk = s.chk := rfl
@[simp] theorem State.startTicks_scr (s : State) : (s.startTicks).scr = s.scr := rfl
@[simp] theorem State.startTicks_flg (s : State) : (s.startTicks).flg = s.flg := rfl
@[simp] theorem State.startTicks_mdc (s : State) : (s.startTicks).mdc = s.mdc := rfl
@[simp] theorem State.startTicks_cfg (s : State) : (s.startTicks).cfg = s.cfg := rfl
@[simp] theorem State.startTicks_mnt (s : State) : (s.startTicks).mnt = s.mnt := rfl
@[simp] theorem State.startTicks_pins (s : State) : (s.startTicks).pins = s.pins := rfl
@[simp] theorem State.startTicks_array (s : State) : (s.startTicks).array = s.array := rfl
@[simp] theorem State.startTicks_rsp (s : State) : (s.startTicks).rsp = s.rsp := rfl
@[simp] theorem State.startTicks_sda (s : State) : (s.startTicks).sda = s.sda := rfl
@[simp] theorem State.startTicks_now (s : State) : (s.startTicks).now = s.now := rfl
@[simp] theorem State.startTicks_powerOns (s : State) : (s.startTicks).powerOns = s.powerOns := rfl
@[simp] theorem State.startTicks_cuts (s : State) : (s.startTicks).cuts = s.cuts := rfl

/-! ### State.stopTicks: the stop of the tick timers -/

@[simp] theorem State.stopTicks_pending (s : State) : (s.stopTicks).pending = s.pending := rfl
@[simp] theorem State.stopTicks_pq (s : State) : (s.stopTicks).pq = s.pq := rfl
@[simp] theorem State.stopTicks_rt (s : State) : (s.stopTicks).rt = s.rt := rfl
@[simp] theorem State.stopTicks_ft (s : State) : (s.stopTicks).ft = s.ft := rfl
@[simp] theorem State.stopTicks_seq (s : State) : (s.stopTicks).seq = s.seq := rfl
@[simp] theorem State.stopTicks_rfs (s : State) : (s.stopTicks).rfs = s.rfs.map fun x => { x with timer := .stopped } := rfl
@[simp] theorem State.stopTicks_chk (s : State) : (s.stopTicks).chk = s.chk := rfl
@[simp] theorem State.stopTicks_scr (s : State) : (s.stopTicks).scr = s.scr := rfl
@[simp] theorem State.stopTicks_flg (s : State) : (s.stopTicks).flg = s.flg := rfl
@[simp] theorem State.stopTicks_mdc (s : State) : (s.stopTicks).mdc = s.mdc := rfl
@[simp] theorem State.stopTicks_cfg (s : State) : (s.stopTicks).cfg = s.cfg := rfl
@[simp] theorem State.stopTicks_mnt (s : State) : (s.stopTicks).mnt = s.mnt := rfl
@[simp] theorem State.stopTicks_pins (s : State) : (s.stopTicks).pins = s.pins := rfl
@[simp] theorem State.stopTicks_array (s : State) : (s.stopTicks).array = s.array := rfl
@[simp] theorem State.stopTicks_rsp (s : State) : (s.stopTicks).rsp = s.rsp := rfl
@[simp] theorem State.stopTicks_sda (s : State) : (s.stopTicks).sda = s.sda := rfl
@[simp] theorem State.stopTicks_now (s : State) : (s.stopTicks).now = s.now := rfl
@[simp] theorem State.stopTicks_powerOns (s : State) : (s.stopTicks).powerOns = s.powerOns := rfl
@[simp] theorem State.stopTicks_cuts (s : State) : (s.stopTicks).cuts = s.cuts := rfl

/-! ### State.clearDebts: the clearing of the debts -/

@[simp] theorem State.clearDebts_pending (s : State) : (s.clearDebts).pending = s.pending := rfl
@[simp] theorem State.clearDebts_pq (s : State) : (s.clearDebts).pq = s.pq := rfl
@[simp] theorem State.clearDebts_rt (s : State) : (s.clearDebts).rt = s.rt := rfl
@[simp] theorem State.clearDebts_ft (s : State) : (s.clearDebts).ft = s.ft := rfl
@[simp] theorem State.clearDebts_seq (s : State) : (s.clearDebts).seq = s.seq := rfl
@[simp] theorem State.clearDebts_rfs (s : State) : (s.clearDebts).rfs = s.rfs.map fun x => { x with debt := 0 } := rfl
@[simp] theorem State.clearDebts_chk (s : State) : (s.clearDebts).chk = s.chk := rfl
@[simp] theorem State.clearDebts_scr (s : State) : (s.clearDebts).scr = s.scr := rfl
@[simp] theorem State.clearDebts_flg (s : State) : (s.clearDebts).flg = s.flg := rfl
@[simp] theorem State.clearDebts_mdc (s : State) : (s.clearDebts).mdc = s.mdc := rfl
@[simp] theorem State.clearDebts_cfg (s : State) : (s.clearDebts).cfg = s.cfg := rfl
@[simp] theorem State.clearDebts_mnt (s : State) : (s.clearDebts).mnt = s.mnt := rfl
@[simp] theorem State.clearDebts_pins (s : State) : (s.clearDebts).pins = s.pins := rfl
@[simp] theorem State.clearDebts_array (s : State) : (s.clearDebts).array = s.array := rfl
@[simp] theorem State.clearDebts_rsp (s : State) : (s.clearDebts).rsp = s.rsp := rfl
@[simp] theorem State.clearDebts_sda (s : State) : (s.clearDebts).sda = s.sda := rfl
@[simp] theorem State.clearDebts_now (s : State) : (s.clearDebts).now = s.now := rfl
@[simp] theorem State.clearDebts_powerOns (s : State) : (s.clearDebts).powerOns = s.powerOns := rfl
@[simp] theorem State.clearDebts_cuts (s : State) : (s.clearDebts).cuts = s.cuts := rfl

/-! ### State.stopScrub: the stop of the scrub timer -/

@[simp] theorem State.stopScrub_pending (s : State) : (s.stopScrub).pending = s.pending := rfl
@[simp] theorem State.stopScrub_pq (s : State) : (s.stopScrub).pq = s.pq := rfl
@[simp] theorem State.stopScrub_rt (s : State) : (s.stopScrub).rt = s.rt := rfl
@[simp] theorem State.stopScrub_ft (s : State) : (s.stopScrub).ft = s.ft := rfl
@[simp] theorem State.stopScrub_seq (s : State) : (s.stopScrub).seq = s.seq := rfl
@[simp] theorem State.stopScrub_rfs (s : State) : (s.stopScrub).rfs = s.rfs := rfl
@[simp] theorem State.stopScrub_chk (s : State) : (s.stopScrub).chk = s.chk := rfl
@[simp] theorem State.stopScrub_scr (s : State) : (s.stopScrub).scr = { s.scr with timer := .stopped, due := false } := rfl
@[simp] theorem State.stopScrub_flg (s : State) : (s.stopScrub).flg = s.flg := rfl
@[simp] theorem State.stopScrub_mdc (s : State) : (s.stopScrub).mdc = s.mdc := rfl
@[simp] theorem State.stopScrub_cfg (s : State) : (s.stopScrub).cfg = s.cfg := rfl
@[simp] theorem State.stopScrub_mnt (s : State) : (s.stopScrub).mnt = s.mnt := rfl
@[simp] theorem State.stopScrub_pins (s : State) : (s.stopScrub).pins = s.pins := rfl
@[simp] theorem State.stopScrub_array (s : State) : (s.stopScrub).array = s.array := rfl
@[simp] theorem State.stopScrub_rsp (s : State) : (s.stopScrub).rsp = s.rsp := rfl
@[simp] theorem State.stopScrub_sda (s : State) : (s.stopScrub).sda = s.sda := rfl
@[simp] theorem State.stopScrub_now (s : State) : (s.stopScrub).now = s.now := rfl
@[simp] theorem State.stopScrub_powerOns (s : State) : (s.stopScrub).powerOns = s.powerOns := rfl
@[simp] theorem State.stopScrub_cuts (s : State) : (s.stopScrub).cuts = s.cuts := rfl

/-! ### State.setMode: a change of mode -/

@[simp] theorem State.setMode_pending (s : State) (m : Mode) : (s.setMode m).pending = s.pending := rfl
@[simp] theorem State.setMode_pq (s : State) (m : Mode) : (s.setMode m).pq = s.pq := rfl
@[simp] theorem State.setMode_rt (s : State) (m : Mode) : (s.setMode m).rt = s.rt := rfl
@[simp] theorem State.setMode_ft (s : State) (m : Mode) : (s.setMode m).ft = s.ft := rfl
@[simp] theorem State.setMode_seq (s : State) (m : Mode) : (s.setMode m).seq = s.seq := rfl
@[simp] theorem State.setMode_rfs (s : State) (m : Mode) : (s.setMode m).rfs = s.rfs := rfl
@[simp] theorem State.setMode_chk (s : State) (m : Mode) : (s.setMode m).chk = s.chk := rfl
@[simp] theorem State.setMode_scr (s : State) (m : Mode) : (s.setMode m).scr = s.scr := rfl
@[simp] theorem State.setMode_flg (s : State) (m : Mode) : (s.setMode m).flg = s.flg := rfl
@[simp] theorem State.setMode_mdc (s : State) (m : Mode) : (s.setMode m).mdc = { s.mdc with mode := m } := rfl
@[simp] theorem State.setMode_cfg (s : State) (m : Mode) : (s.setMode m).cfg = s.cfg := rfl
@[simp] theorem State.setMode_mnt (s : State) (m : Mode) : (s.setMode m).mnt = s.mnt := rfl
@[simp] theorem State.setMode_pins (s : State) (m : Mode) : (s.setMode m).pins = s.pins := rfl
@[simp] theorem State.setMode_array (s : State) (m : Mode) : (s.setMode m).array = s.array := rfl
@[simp] theorem State.setMode_rsp (s : State) (m : Mode) : (s.setMode m).rsp = s.rsp := rfl
@[simp] theorem State.setMode_sda (s : State) (m : Mode) : (s.setMode m).sda = s.sda := rfl
@[simp] theorem State.setMode_now (s : State) (m : Mode) : (s.setMode m).now = s.now := rfl
@[simp] theorem State.setMode_powerOns (s : State) (m : Mode) : (s.setMode m).powerOns = s.powerOns := rfl
@[simp] theorem State.setMode_cuts (s : State) (m : Mode) : (s.setMode m).cuts = s.cuts := rfl

/-! ### State.startHoldup: the start of the hold-up timer -/

@[simp] theorem State.startHoldup_pending (s : State) : (s.startHoldup).pending = s.pending := rfl
@[simp] theorem State.startHoldup_pq (s : State) : (s.startHoldup).pq = s.pq := rfl
@[simp] theorem State.startHoldup_rt (s : State) : (s.startHoldup).rt = s.rt := rfl
@[simp] theorem State.startHoldup_ft (s : State) : (s.startHoldup).ft = s.ft := rfl
@[simp] theorem State.startHoldup_seq (s : State) : (s.startHoldup).seq = s.seq := rfl
@[simp] theorem State.startHoldup_rfs (s : State) : (s.startHoldup).rfs = s.rfs := rfl
@[simp] theorem State.startHoldup_chk (s : State) : (s.startHoldup).chk = s.chk := rfl
@[simp] theorem State.startHoldup_scr (s : State) : (s.startHoldup).scr = s.scr := rfl
@[simp] theorem State.startHoldup_flg (s : State) : (s.startHoldup).flg = s.flg := rfl
@[simp] theorem State.startHoldup_mdc (s : State) : (s.startHoldup).mdc = { s.mdc with holdupTimer := .running (s.now + s.cfg.active.holdTime) } := rfl
@[simp] theorem State.startHoldup_cfg (s : State) : (s.startHoldup).cfg = s.cfg := rfl
@[simp] theorem State.startHoldup_mnt (s : State) : (s.startHoldup).mnt = s.mnt := rfl
@[simp] theorem State.startHoldup_pins (s : State) : (s.startHoldup).pins = s.pins := rfl
@[simp] theorem State.startHoldup_array (s : State) : (s.startHoldup).array = s.array := rfl
@[simp] theorem State.startHoldup_rsp (s : State) : (s.startHoldup).rsp = s.rsp := rfl
@[simp] theorem State.startHoldup_sda (s : State) : (s.startHoldup).sda = s.sda := rfl
@[simp] theorem State.startHoldup_now (s : State) : (s.startHoldup).now = s.now := rfl
@[simp] theorem State.startHoldup_powerOns (s : State) : (s.startHoldup).powerOns = s.powerOns := rfl
@[simp] theorem State.startHoldup_cuts (s : State) : (s.startHoldup).cuts = s.cuts := rfl

/-! ### State.stopHoldup: the stop of the hold-up timer -/

@[simp] theorem State.stopHoldup_pending (s : State) : (s.stopHoldup).pending = s.pending := rfl
@[simp] theorem State.stopHoldup_pq (s : State) : (s.stopHoldup).pq = s.pq := rfl
@[simp] theorem State.stopHoldup_rt (s : State) : (s.stopHoldup).rt = s.rt := rfl
@[simp] theorem State.stopHoldup_ft (s : State) : (s.stopHoldup).ft = s.ft := rfl
@[simp] theorem State.stopHoldup_seq (s : State) : (s.stopHoldup).seq = s.seq := rfl
@[simp] theorem State.stopHoldup_rfs (s : State) : (s.stopHoldup).rfs = s.rfs := rfl
@[simp] theorem State.stopHoldup_chk (s : State) : (s.stopHoldup).chk = s.chk := rfl
@[simp] theorem State.stopHoldup_scr (s : State) : (s.stopHoldup).scr = s.scr := rfl
@[simp] theorem State.stopHoldup_flg (s : State) : (s.stopHoldup).flg = s.flg := rfl
@[simp] theorem State.stopHoldup_mdc (s : State) : (s.stopHoldup).mdc = { s.mdc with holdupTimer := .stopped } := rfl
@[simp] theorem State.stopHoldup_cfg (s : State) : (s.stopHoldup).cfg = s.cfg := rfl
@[simp] theorem State.stopHoldup_mnt (s : State) : (s.stopHoldup).mnt = s.mnt := rfl
@[simp] theorem State.stopHoldup_pins (s : State) : (s.stopHoldup).pins = s.pins := rfl
@[simp] theorem State.stopHoldup_array (s : State) : (s.stopHoldup).array = s.array := rfl
@[simp] theorem State.stopHoldup_rsp (s : State) : (s.stopHoldup).rsp = s.rsp := rfl
@[simp] theorem State.stopHoldup_sda (s : State) : (s.stopHoldup).sda = s.sda := rfl
@[simp] theorem State.stopHoldup_now (s : State) : (s.stopHoldup).now = s.now := rfl
@[simp] theorem State.stopHoldup_powerOns (s : State) : (s.stopHoldup).powerOns = s.powerOns := rfl
@[simp] theorem State.stopHoldup_cuts (s : State) : (s.stopHoldup).cuts = s.cuts := rfl

/-! ### State.raiseReady: PORT_READY going high -/

@[simp] theorem State.raiseReady_pending (s : State) : (s.raiseReady).pending = s.pending := rfl
@[simp] theorem State.raiseReady_pq (s : State) : (s.raiseReady).pq = s.pq := rfl
@[simp] theorem State.raiseReady_rt (s : State) : (s.raiseReady).rt = s.rt := rfl
@[simp] theorem State.raiseReady_ft (s : State) : (s.raiseReady).ft = s.ft := rfl
@[simp] theorem State.raiseReady_seq (s : State) : (s.raiseReady).seq = s.seq := rfl
@[simp] theorem State.raiseReady_rfs (s : State) : (s.raiseReady).rfs = s.rfs := rfl
@[simp] theorem State.raiseReady_chk (s : State) : (s.raiseReady).chk = s.chk := rfl
@[simp] theorem State.raiseReady_scr (s : State) : (s.raiseReady).scr = s.scr := rfl
@[simp] theorem State.raiseReady_flg (s : State) : (s.raiseReady).flg = s.flg := rfl
@[simp] theorem State.raiseReady_mdc (s : State) : (s.raiseReady).mdc = s.mdc := rfl
@[simp] theorem State.raiseReady_cfg (s : State) : (s.raiseReady).cfg = s.cfg := rfl
@[simp] theorem State.raiseReady_mnt (s : State) : (s.raiseReady).mnt = s.mnt := rfl
@[simp] theorem State.raiseReady_pins (s : State) : (s.raiseReady).pins = { s.pins with portReady := true } := rfl
@[simp] theorem State.raiseReady_array (s : State) : (s.raiseReady).array = s.array := rfl
@[simp] theorem State.raiseReady_rsp (s : State) : (s.raiseReady).rsp = s.rsp := rfl
@[simp] theorem State.raiseReady_sda (s : State) : (s.raiseReady).sda = s.sda := rfl
@[simp] theorem State.raiseReady_now (s : State) : (s.raiseReady).now = s.now := rfl
@[simp] theorem State.raiseReady_powerOns (s : State) : (s.raiseReady).powerOns = s.powerOns := rfl
@[simp] theorem State.raiseReady_cuts (s : State) : (s.raiseReady).cuts = s.cuts := rfl

/-! ### State.startFill: the start of the zero fill -/

@[simp] theorem State.startFill_pending (s : State) : (s.startFill).pending = s.pending := rfl
@[simp] theorem State.startFill_pq (s : State) : (s.startFill).pq = s.pq := rfl
@[simp] theorem State.startFill_rt (s : State) : (s.startFill).rt = s.rt := rfl
@[simp] theorem State.startFill_ft (s : State) : (s.startFill).ft = s.ft := rfl
@[simp] theorem State.startFill_seq (s : State) : (s.startFill).seq = s.seq := rfl
@[simp] theorem State.startFill_rfs (s : State) : (s.startFill).rfs = s.rfs := rfl
@[simp] theorem State.startFill_chk (s : State) : (s.startFill).chk = s.chk := rfl
@[simp] theorem State.startFill_scr (s : State) : (s.startFill).scr = s.scr := rfl
@[simp] theorem State.startFill_flg (s : State) : (s.startFill).flg = s.flg := rfl
@[simp] theorem State.startFill_mdc (s : State) : (s.startFill).mdc = { s.mdc with mode := .fill, fillRank := s.cfg.active.lowestRank, fillLine := 0 } := rfl
@[simp] theorem State.startFill_cfg (s : State) : (s.startFill).cfg = s.cfg := rfl
@[simp] theorem State.startFill_mnt (s : State) : (s.startFill).mnt = s.mnt := rfl
@[simp] theorem State.startFill_pins (s : State) : (s.startFill).pins = s.pins := rfl
@[simp] theorem State.startFill_array (s : State) : (s.startFill).array = s.array := rfl
@[simp] theorem State.startFill_rsp (s : State) : (s.startFill).rsp = s.rsp := rfl
@[simp] theorem State.startFill_sda (s : State) : (s.startFill).sda = s.sda := rfl
@[simp] theorem State.startFill_now (s : State) : (s.startFill).now = s.now := rfl
@[simp] theorem State.startFill_powerOns (s : State) : (s.startFill).powerOns = s.powerOns := rfl
@[simp] theorem State.startFill_cuts (s : State) : (s.startFill).cuts = s.cuts := rfl

/-! ### State.setTransfer: a change of the transfer state -/

@[simp] theorem State.setTransfer_pending (s : State) (x : Transfer) : (s.setTransfer x).pending = s.pending := rfl
@[simp] theorem State.setTransfer_pq (s : State) (x : Transfer) : (s.setTransfer x).pq = s.pq := rfl
@[simp] theorem State.setTransfer_rt (s : State) (x : Transfer) : (s.setTransfer x).rt = s.rt := rfl
@[simp] theorem State.setTransfer_ft (s : State) (x : Transfer) : (s.setTransfer x).ft = s.ft := rfl
@[simp] theorem State.setTransfer_seq (s : State) (x : Transfer) : (s.setTransfer x).seq = s.seq := rfl
@[simp] theorem State.setTransfer_rfs (s : State) (x : Transfer) : (s.setTransfer x).rfs = s.rfs := rfl
@[simp] theorem State.setTransfer_chk (s : State) (x : Transfer) : (s.setTransfer x).chk = s.chk := rfl
@[simp] theorem State.setTransfer_scr (s : State) (x : Transfer) : (s.setTransfer x).scr = s.scr := rfl
@[simp] theorem State.setTransfer_flg (s : State) (x : Transfer) : (s.setTransfer x).flg = s.flg := rfl
@[simp] theorem State.setTransfer_mdc (s : State) (x : Transfer) : (s.setTransfer x).mdc = s.mdc := rfl
@[simp] theorem State.setTransfer_cfg (s : State) (x : Transfer) : (s.setTransfer x).cfg = s.cfg := rfl
@[simp] theorem State.setTransfer_mnt (s : State) (x : Transfer) : (s.setTransfer x).mnt = { s.mnt with transfer := x } := rfl
@[simp] theorem State.setTransfer_pins (s : State) (x : Transfer) : (s.setTransfer x).pins = s.pins := rfl
@[simp] theorem State.setTransfer_array (s : State) (x : Transfer) : (s.setTransfer x).array = s.array := rfl
@[simp] theorem State.setTransfer_rsp (s : State) (x : Transfer) : (s.setTransfer x).rsp = s.rsp := rfl
@[simp] theorem State.setTransfer_sda (s : State) (x : Transfer) : (s.setTransfer x).sda = s.sda := rfl
@[simp] theorem State.setTransfer_now (s : State) (x : Transfer) : (s.setTransfer x).now = s.now := rfl
@[simp] theorem State.setTransfer_powerOns (s : State) (x : Transfer) : (s.setTransfer x).powerOns = s.powerOns := rfl
@[simp] theorem State.setTransfer_cuts (s : State) (x : Transfer) : (s.setTransfer x).cuts = s.cuts := rfl

/-! ### State.bumpPointer: the rise of the register pointer -/

@[simp] theorem State.bumpPointer_pending (s : State) : (s.bumpPointer).pending = s.pending := rfl
@[simp] theorem State.bumpPointer_pq (s : State) : (s.bumpPointer).pq = s.pq := rfl
@[simp] theorem State.bumpPointer_rt (s : State) : (s.bumpPointer).rt = s.rt := rfl
@[simp] theorem State.bumpPointer_ft (s : State) : (s.bumpPointer).ft = s.ft := rfl
@[simp] theorem State.bumpPointer_seq (s : State) : (s.bumpPointer).seq = s.seq := rfl
@[simp] theorem State.bumpPointer_rfs (s : State) : (s.bumpPointer).rfs = s.rfs := rfl
@[simp] theorem State.bumpPointer_chk (s : State) : (s.bumpPointer).chk = s.chk := rfl
@[simp] theorem State.bumpPointer_scr (s : State) : (s.bumpPointer).scr = s.scr := rfl
@[simp] theorem State.bumpPointer_flg (s : State) : (s.bumpPointer).flg = s.flg := rfl
@[simp] theorem State.bumpPointer_mdc (s : State) : (s.bumpPointer).mdc = s.mdc := rfl
@[simp] theorem State.bumpPointer_cfg (s : State) : (s.bumpPointer).cfg = s.cfg := rfl
@[simp] theorem State.bumpPointer_mnt (s : State) : (s.bumpPointer).mnt = { s.mnt with pointer := s.mnt.pointer + 1 } := rfl
@[simp] theorem State.bumpPointer_pins (s : State) : (s.bumpPointer).pins = s.pins := rfl
@[simp] theorem State.bumpPointer_array (s : State) : (s.bumpPointer).array = s.array := rfl
@[simp] theorem State.bumpPointer_rsp (s : State) : (s.bumpPointer).rsp = s.rsp := rfl
@[simp] theorem State.bumpPointer_sda (s : State) : (s.bumpPointer).sda = s.sda := rfl
@[simp] theorem State.bumpPointer_now (s : State) : (s.bumpPointer).now = s.now := rfl
@[simp] theorem State.bumpPointer_powerOns (s : State) : (s.bumpPointer).powerOns = s.powerOns := rfl
@[simp] theorem State.bumpPointer_cuts (s : State) : (s.bumpPointer).cuts = s.cuts := rfl

/-! ### State.refuseByte: a NACK -/

@[simp] theorem State.refuseByte_pending (s : State) : (s.refuseByte).pending = s.pending := rfl
@[simp] theorem State.refuseByte_pq (s : State) : (s.refuseByte).pq = s.pq := rfl
@[simp] theorem State.refuseByte_rt (s : State) : (s.refuseByte).rt = s.rt := rfl
@[simp] theorem State.refuseByte_ft (s : State) : (s.refuseByte).ft = s.ft := rfl
@[simp] theorem State.refuseByte_seq (s : State) : (s.refuseByte).seq = s.seq := rfl
@[simp] theorem State.refuseByte_rfs (s : State) : (s.refuseByte).rfs = s.rfs := rfl
@[simp] theorem State.refuseByte_chk (s : State) : (s.refuseByte).chk = s.chk := rfl
@[simp] theorem State.refuseByte_scr (s : State) : (s.refuseByte).scr = s.scr := rfl
@[simp] theorem State.refuseByte_flg (s : State) : (s.refuseByte).flg = s.flg := rfl
@[simp] theorem State.refuseByte_mdc (s : State) : (s.refuseByte).mdc = s.mdc := rfl
@[simp] theorem State.refuseByte_cfg (s : State) : (s.refuseByte).cfg = s.cfg := rfl
@[simp] theorem State.refuseByte_mnt (s : State) : (s.refuseByte).mnt = { s.mnt with transfer := .writeIgnored } := rfl
@[simp] theorem State.refuseByte_pins (s : State) : (s.refuseByte).pins = s.pins := rfl
@[simp] theorem State.refuseByte_array (s : State) : (s.refuseByte).array = s.array := rfl
@[simp] theorem State.refuseByte_rsp (s : State) : (s.refuseByte).rsp = s.rsp := rfl
@[simp] theorem State.refuseByte_sda (s : State) : (s.refuseByte).sda = s.sda ++ [.nack] := rfl
@[simp] theorem State.refuseByte_now (s : State) : (s.refuseByte).now = s.now := rfl
@[simp] theorem State.refuseByte_powerOns (s : State) : (s.refuseByte).powerOns = s.powerOns := rfl
@[simp] theorem State.refuseByte_cuts (s : State) : (s.refuseByte).cuts = s.cuts := rfl

/-! ### State.finishRegisterWrite: the completion of a register write -/

@[simp] theorem State.finishRegisterWrite_pending (s : State) : (s.finishRegisterWrite).pending = s.pending := rfl
@[simp] theorem State.finishRegisterWrite_pq (s : State) : (s.finishRegisterWrite).pq = s.pq := rfl
@[simp] theorem State.finishRegisterWrite_rt (s : State) : (s.finishRegisterWrite).rt = s.rt := rfl
@[simp] theorem State.finishRegisterWrite_ft (s : State) : (s.finishRegisterWrite).ft = s.ft := rfl
@[simp] theorem State.finishRegisterWrite_seq (s : State) : (s.finishRegisterWrite).seq = s.seq := rfl
@[simp] theorem State.finishRegisterWrite_rfs (s : State) : (s.finishRegisterWrite).rfs = s.rfs := rfl
@[simp] theorem State.finishRegisterWrite_chk (s : State) : (s.finishRegisterWrite).chk = s.chk := rfl
@[simp] theorem State.finishRegisterWrite_scr (s : State) : (s.finishRegisterWrite).scr = s.scr := rfl
@[simp] theorem State.finishRegisterWrite_flg (s : State) : (s.finishRegisterWrite).flg = s.flg := rfl
@[simp] theorem State.finishRegisterWrite_mdc (s : State) : (s.finishRegisterWrite).mdc = s.mdc := rfl
@[simp] theorem State.finishRegisterWrite_cfg (s : State) : (s.finishRegisterWrite).cfg = s.cfg := rfl
@[simp] theorem State.finishRegisterWrite_mnt (s : State) : (s.finishRegisterWrite).mnt = { s.mnt with pointer := s.mnt.pointer + 1, transfer := .writeHigh } := rfl
@[simp] theorem State.finishRegisterWrite_pins (s : State) : (s.finishRegisterWrite).pins = s.pins := rfl
@[simp] theorem State.finishRegisterWrite_array (s : State) : (s.finishRegisterWrite).array = s.array := rfl
@[simp] theorem State.finishRegisterWrite_rsp (s : State) : (s.finishRegisterWrite).rsp = s.rsp := rfl
@[simp] theorem State.finishRegisterWrite_sda (s : State) : (s.finishRegisterWrite).sda = s.sda ++ [.ack] := rfl
@[simp] theorem State.finishRegisterWrite_now (s : State) : (s.finishRegisterWrite).now = s.now := rfl
@[simp] theorem State.finishRegisterWrite_powerOns (s : State) : (s.finishRegisterWrite).powerOns = s.powerOns := rfl
@[simp] theorem State.finishRegisterWrite_cuts (s : State) : (s.finishRegisterWrite).cuts = s.cuts := rfl

/-! ### State.setResult: the result of a command -/

@[simp] theorem State.setResult_pending (s : State) (c : BitVec 4) (r : ResultCode) : (s.setResult c r).pending = s.pending := rfl
@[simp] theorem State.setResult_pq (s : State) (c : BitVec 4) (r : ResultCode) : (s.setResult c r).pq = s.pq := rfl
@[simp] theorem State.setResult_rt (s : State) (c : BitVec 4) (r : ResultCode) : (s.setResult c r).rt = s.rt := rfl
@[simp] theorem State.setResult_ft (s : State) (c : BitVec 4) (r : ResultCode) : (s.setResult c r).ft = s.ft := rfl
@[simp] theorem State.setResult_seq (s : State) (c : BitVec 4) (r : ResultCode) : (s.setResult c r).seq = s.seq := rfl
@[simp] theorem State.setResult_rfs (s : State) (c : BitVec 4) (r : ResultCode) : (s.setResult c r).rfs = s.rfs := rfl
@[simp] theorem State.setResult_chk (s : State) (c : BitVec 4) (r : ResultCode) : (s.setResult c r).chk = s.chk := rfl
@[simp] theorem State.setResult_scr (s : State) (c : BitVec 4) (r : ResultCode) : (s.setResult c r).scr = s.scr := rfl
@[simp] theorem State.setResult_flg (s : State) (c : BitVec 4) (r : ResultCode) : (s.setResult c r).flg = s.flg := rfl
@[simp] theorem State.setResult_mdc (s : State) (c : BitVec 4) (r : ResultCode) : (s.setResult c r).mdc = s.mdc := rfl
@[simp] theorem State.setResult_cfg (s : State) (c : BitVec 4) (r : ResultCode) : (s.setResult c r).cfg = s.cfg := rfl
@[simp] theorem State.setResult_mnt (s : State) (c : BitVec 4) (r : ResultCode) : (s.setResult c r).mnt = { s.mnt with result := { result := r, command := c } } := rfl
@[simp] theorem State.setResult_pins (s : State) (c : BitVec 4) (r : ResultCode) : (s.setResult c r).pins = s.pins := rfl
@[simp] theorem State.setResult_array (s : State) (c : BitVec 4) (r : ResultCode) : (s.setResult c r).array = s.array := rfl
@[simp] theorem State.setResult_rsp (s : State) (c : BitVec 4) (r : ResultCode) : (s.setResult c r).rsp = s.rsp := rfl
@[simp] theorem State.setResult_sda (s : State) (c : BitVec 4) (r : ResultCode) : (s.setResult c r).sda = s.sda := rfl
@[simp] theorem State.setResult_now (s : State) (c : BitVec 4) (r : ResultCode) : (s.setResult c r).now = s.now := rfl
@[simp] theorem State.setResult_powerOns (s : State) (c : BitVec 4) (r : ResultCode) : (s.setResult c r).powerOns = s.powerOns := rfl
@[simp] theorem State.setResult_cuts (s : State) (c : BitVec 4) (r : ResultCode) : (s.setResult c r).cuts = s.cuts := rfl

end Sys2Proof.Machine
end

