-- ==== Sys2Proof/Laws/Ops.lean ====
section
/-! SUPPORT. Laws/Ops.lean: what each shared operation that decides something does to each field: said once, and cited
instead of unfolding the operation. -/

namespace Sys2Proof.Machine

/-! ### State.faultIf: a fault event that may be -/

@[simp] theorem State.faultIf_pending (s : State) (c : Bool) (e : FaultEvent) : (s.faultIf c e).pending = s.pending := by
  unfold State.faultIf; split <;> rfl
@[simp] theorem State.faultIf_pq (s : State) (c : Bool) (e : FaultEvent) : (s.faultIf c e).pq = s.pq := by
  unfold State.faultIf; split <;> rfl
@[simp] theorem State.faultIf_rt (s : State) (c : Bool) (e : FaultEvent) : (s.faultIf c e).rt = s.rt := by
  unfold State.faultIf; split <;> rfl
@[simp] theorem State.faultIf_ft (s : State) (c : Bool) (e : FaultEvent) : (s.faultIf c e).ft = s.ft := by
  unfold State.faultIf; split <;> rfl
@[simp] theorem State.faultIf_seq (s : State) (c : Bool) (e : FaultEvent) : (s.faultIf c e).seq = s.seq := by
  unfold State.faultIf; split <;> rfl
@[simp] theorem State.faultIf_rfs (s : State) (c : Bool) (e : FaultEvent) : (s.faultIf c e).rfs = s.rfs := by
  unfold State.faultIf; split <;> rfl
@[simp] theorem State.faultIf_chk (s : State) (c : Bool) (e : FaultEvent) : (s.faultIf c e).chk = s.chk := by
  unfold State.faultIf; split <;> rfl
@[simp] theorem State.faultIf_scr (s : State) (c : Bool) (e : FaultEvent) : (s.faultIf c e).scr = s.scr := by
  unfold State.faultIf; split <;> rfl
@[simp] theorem State.faultIf_flg (s : State) (c : Bool) (e : FaultEvent) : (s.faultIf c e).flg = if c then s.flg.take e else s.flg := by
  unfold State.faultIf; split <;> rfl
@[simp] theorem State.faultIf_mdc (s : State) (c : Bool) (e : FaultEvent) : (s.faultIf c e).mdc = s.mdc := by
  unfold State.faultIf; split <;> rfl
@[simp] theorem State.faultIf_cfg (s : State) (c : Bool) (e : FaultEvent) : (s.faultIf c e).cfg = s.cfg := by
  unfold State.faultIf; split <;> rfl
@[simp] theorem State.faultIf_mnt (s : State) (c : Bool) (e : FaultEvent) : (s.faultIf c e).mnt = s.mnt := by
  unfold State.faultIf; split <;> rfl
@[simp] theorem State.faultIf_pins (s : State) (c : Bool) (e : FaultEvent) : (s.faultIf c e).pins = s.pins := by
  unfold State.faultIf; split <;> rfl
@[simp] theorem State.faultIf_array (s : State) (c : Bool) (e : FaultEvent) : (s.faultIf c e).array = s.array := by
  unfold State.faultIf; split <;> rfl
@[simp] theorem State.faultIf_rsp (s : State) (c : Bool) (e : FaultEvent) : (s.faultIf c e).rsp = s.rsp := by
  unfold State.faultIf; split <;> rfl
@[simp] theorem State.faultIf_sda (s : State) (c : Bool) (e : FaultEvent) : (s.faultIf c e).sda = s.sda := by
  unfold State.faultIf; split <;> rfl
@[simp] theorem State.faultIf_now (s : State) (c : Bool) (e : FaultEvent) : (s.faultIf c e).now = s.now := by
  unfold State.faultIf; split <;> rfl
@[simp] theorem State.faultIf_powerOns (s : State) (c : Bool) (e : FaultEvent) : (s.faultIf c e).powerOns = s.powerOns := by
  unfold State.faultIf; split <;> rfl
@[simp] theorem State.faultIf_cuts (s : State) (c : Bool) (e : FaultEvent) : (s.faultIf c e).cuts = s.cuts := by
  unfold State.faultIf; split <;> rfl

/-! ### State.addCorrected: the addition to a corrected count -/

@[simp] theorem State.addCorrected_pending (s : State) (r : Rank) (k : Nat) : (s.addCorrected r k).pending = s.pending := by
  simp [State.addCorrected]
@[simp] theorem State.addCorrected_pq (s : State) (r : Rank) (k : Nat) : (s.addCorrected r k).pq = s.pq := by
  simp [State.addCorrected]
@[simp] theorem State.addCorrected_rt (s : State) (r : Rank) (k : Nat) : (s.addCorrected r k).rt = s.rt := by
  simp [State.addCorrected]
@[simp] theorem State.addCorrected_ft (s : State) (r : Rank) (k : Nat) : (s.addCorrected r k).ft = s.ft := by
  simp [State.addCorrected]
@[simp] theorem State.addCorrected_seq (s : State) (r : Rank) (k : Nat) : (s.addCorrected r k).seq = s.seq := by
  simp [State.addCorrected]
@[simp] theorem State.addCorrected_rfs (s : State) (r : Rank) (k : Nat) : (s.addCorrected r k).rfs = s.rfs := by
  simp [State.addCorrected]
@[simp] theorem State.addCorrected_chk (s : State) (r : Rank) (k : Nat) : (s.addCorrected r k).chk = s.chk.set r (addSaturating s.chk[r] k) := by
  simp [State.addCorrected]
@[simp] theorem State.addCorrected_scr (s : State) (r : Rank) (k : Nat) : (s.addCorrected r k).scr = s.scr := by
  simp [State.addCorrected]
@[simp] theorem State.addCorrected_flg (s : State) (r : Rank) (k : Nat) : (s.addCorrected r k).flg = if decide (s.chk[r].toNat < s.cfg.active.correctedThreshold.toNat) && decide (s.cfg.active.correctedThreshold.toNat ≤ (addSaturating s.chk[r] k).toNat) then s.flg.take (.correctedLimit r s.cfg.active.correctedThreshold) else s.flg := by
  simp [State.addCorrected]
@[simp] theorem State.addCorrected_mdc (s : State) (r : Rank) (k : Nat) : (s.addCorrected r k).mdc = s.mdc := by
  simp [State.addCorrected]
@[simp] theorem State.addCorrected_cfg (s : State) (r : Rank) (k : Nat) : (s.addCorrected r k).cfg = s.cfg := by
  simp [State.addCorrected]
@[simp] theorem State.addCorrected_mnt (s : State) (r : Rank) (k : Nat) : (s.addCorrected r k).mnt = s.mnt := by
  simp [State.addCorrected]
@[simp] theorem State.addCorrected_pins (s : State) (r : Rank) (k : Nat) : (s.addCorrected r k).pins = s.pins := by
  simp [State.addCorrected]
@[simp] theorem State.addCorrected_array (s : State) (r : Rank) (k : Nat) : (s.addCorrected r k).array = s.array := by
  simp [State.addCorrected]
@[simp] theorem State.addCorrected_rsp (s : State) (r : Rank) (k : Nat) : (s.addCorrected r k).rsp = s.rsp := by
  simp [State.addCorrected]
@[simp] theorem State.addCorrected_sda (s : State) (r : Rank) (k : Nat) : (s.addCorrected r k).sda = s.sda := by
  simp [State.addCorrected]
@[simp] theorem State.addCorrected_now (s : State) (r : Rank) (k : Nat) : (s.addCorrected r k).now = s.now := by
  simp [State.addCorrected]
@[simp] theorem State.addCorrected_powerOns (s : State) (r : Rank) (k : Nat) : (s.addCorrected r k).powerOns = s.powerOns := by
  simp [State.addCorrected]
@[simp] theorem State.addCorrected_cuts (s : State) (r : Rank) (k : Nat) : (s.addCorrected r k).cuts = s.cuts := by
  simp [State.addCorrected]

/-! ### State.startScrub: the fresh start of the scrub timer -/

@[simp] theorem State.startScrub_pending (s : State) : (s.startScrub).pending = s.pending := by
  unfold State.startScrub; split <;> rfl
@[simp] theorem State.startScrub_pq (s : State) : (s.startScrub).pq = s.pq := by
  unfold State.startScrub; split <;> rfl
@[simp] theorem State.startScrub_rt (s : State) : (s.startScrub).rt = s.rt := by
  unfold State.startScrub; split <;> rfl
@[simp] theorem State.startScrub_ft (s : State) : (s.startScrub).ft = s.ft := by
  unfold State.startScrub; split <;> rfl
@[simp] theorem State.startScrub_seq (s : State) : (s.startScrub).seq = s.seq := by
  unfold State.startScrub; split <;> rfl
@[simp] theorem State.startScrub_rfs (s : State) : (s.startScrub).rfs = s.rfs := by
  unfold State.startScrub; split <;> rfl
@[simp] theorem State.startScrub_chk (s : State) : (s.startScrub).chk = s.chk := by
  unfold State.startScrub; split <;> rfl
@[simp] theorem State.startScrub_scr (s : State) : (s.startScrub).scr = if s.cfg.active.scrubEnable then { s.scr with timer := .running (s.now + s.cfg.active.scrubTime), due := false } else s.scr := by
  unfold State.startScrub; split <;> rfl
@[simp] theorem State.startScrub_flg (s : State) : (s.startScrub).flg = s.flg := by
  unfold State.startScrub; split <;> rfl
@[simp] theorem State.startScrub_mdc (s : State) : (s.startScrub).mdc = s.mdc := by
  unfold State.startScrub; split <;> rfl
@[simp] theorem State.startScrub_cfg (s : State) : (s.startScrub).cfg = s.cfg := by
  unfold State.startScrub; split <;> rfl
@[simp] theorem State.startScrub_mnt (s : State) : (s.startScrub).mnt = s.mnt := by
  unfold State.startScrub; split <;> rfl
@[simp] theorem State.startScrub_pins (s : State) : (s.startScrub).pins = s.pins := by
  unfold State.startScrub; split <;> rfl
@[simp] theorem State.startScrub_array (s : State) : (s.startScrub).array = s.array := by
  unfold State.startScrub; split <;> rfl
@[simp] theorem State.startScrub_rsp (s : State) : (s.startScrub).rsp = s.rsp := by
  unfold State.startScrub; split <;> rfl
@[simp] theorem State.startScrub_sda (s : State) : (s.startScrub).sda = s.sda := by
  unfold State.startScrub; split <;> rfl
@[simp] theorem State.startScrub_now (s : State) : (s.startScrub).now = s.now := by
  unfold State.startScrub; split <;> rfl
@[simp] theorem State.startScrub_powerOns (s : State) : (s.startScrub).powerOns = s.powerOns := by
  unfold State.startScrub; split <;> rfl
@[simp] theorem State.startScrub_cuts (s : State) : (s.startScrub).cuts = s.cuts := by
  unfold State.startScrub; split <;> rfl

/-! ### State.cancelCommit: the cancellation of a pending commit -/

@[simp] theorem State.cancelCommit_pending (s : State) : (s.cancelCommit).pending = s.pending := by
  unfold State.cancelCommit; split <;> rfl
@[simp] theorem State.cancelCommit_pq (s : State) : (s.cancelCommit).pq = s.pq := by
  unfold State.cancelCommit; split <;> rfl
@[simp] theorem State.cancelCommit_rt (s : State) : (s.cancelCommit).rt = s.rt := by
  unfold State.cancelCommit; split <;> rfl
@[simp] theorem State.cancelCommit_ft (s : State) : (s.cancelCommit).ft = s.ft := by
  unfold State.cancelCommit; split <;> rfl
@[simp] theorem State.cancelCommit_seq (s : State) : (s.cancelCommit).seq = s.seq := by
  unfold State.cancelCommit; split <;> rfl
@[simp] theorem State.cancelCommit_rfs (s : State) : (s.cancelCommit).rfs = s.rfs := by
  unfold State.cancelCommit; split <;> rfl
@[simp] theorem State.cancelCommit_chk (s : State) : (s.cancelCommit).chk = s.chk := by
  unfold State.cancelCommit; split <;> rfl
@[simp] theorem State.cancelCommit_scr (s : State) : (s.cancelCommit).scr = s.scr := by
  unfold State.cancelCommit; split <;> rfl
@[simp] theorem State.cancelCommit_flg (s : State) : (s.cancelCommit).flg = s.flg := by
  unfold State.cancelCommit; split <;> rfl
@[simp] theorem State.cancelCommit_mdc (s : State) : (s.cancelCommit).mdc = s.mdc := by
  unfold State.cancelCommit; split <;> rfl
@[simp] theorem State.cancelCommit_cfg (s : State) : (s.cancelCommit).cfg = if s.cfg.pending then { s.cfg with pending := false, outcome := .cancelled } else s.cfg := by
  unfold State.cancelCommit; split <;> rfl
@[simp] theorem State.cancelCommit_mnt (s : State) : (s.cancelCommit).mnt = s.mnt := by
  unfold State.cancelCommit; split <;> rfl
@[simp] theorem State.cancelCommit_pins (s : State) : (s.cancelCommit).pins = s.pins := by
  unfold State.cancelCommit; split <;> rfl
@[simp] theorem State.cancelCommit_array (s : State) : (s.cancelCommit).array = s.array := by
  unfold State.cancelCommit; split <;> rfl
@[simp] theorem State.cancelCommit_rsp (s : State) : (s.cancelCommit).rsp = s.rsp := by
  unfold State.cancelCommit; split <;> rfl
@[simp] theorem State.cancelCommit_sda (s : State) : (s.cancelCommit).sda = s.sda := by
  unfold State.cancelCommit; split <;> rfl
@[simp] theorem State.cancelCommit_now (s : State) : (s.cancelCommit).now = s.now := by
  unfold State.cancelCommit; split <;> rfl
@[simp] theorem State.cancelCommit_powerOns (s : State) : (s.cancelCommit).powerOns = s.powerOns := by
  unfold State.cancelCommit; split <;> rfl
@[simp] theorem State.cancelCommit_cuts (s : State) : (s.cancelCommit).cuts = s.cuts := by
  unfold State.cancelCommit; split <;> rfl

/-! ### State.enterHoldup: the entry to HOLDUP -/

@[simp] theorem State.enterHoldup_pending (s : State) : (s.enterHoldup).pending = s.pending := by
  simp [State.enterHoldup]
@[simp] theorem State.enterHoldup_pq (s : State) : (s.enterHoldup).pq = s.pq := by
  simp [State.enterHoldup]
@[simp] theorem State.enterHoldup_rt (s : State) : (s.enterHoldup).rt = s.rt := by
  simp [State.enterHoldup]
@[simp] theorem State.enterHoldup_ft (s : State) : (s.enterHoldup).ft = s.ft := by
  simp [State.enterHoldup]
@[simp] theorem State.enterHoldup_seq (s : State) : (s.enterHoldup).seq = s.seq := by
  simp [State.enterHoldup]
@[simp] theorem State.enterHoldup_rfs (s : State) : (s.enterHoldup).rfs = s.rfs := by
  simp [State.enterHoldup]
@[simp] theorem State.enterHoldup_chk (s : State) : (s.enterHoldup).chk = s.chk := by
  simp [State.enterHoldup]
@[simp] theorem State.enterHoldup_scr (s : State) : (s.enterHoldup).scr = { s.scr with timer := .stopped, due := false } := by
  simp [State.enterHoldup]
@[simp] theorem State.enterHoldup_flg (s : State) : (s.enterHoldup).flg = s.flg := by
  simp [State.enterHoldup]
@[simp] theorem State.enterHoldup_mdc (s : State) : (s.enterHoldup).mdc = { s.mdc with mode := .holdup, holdupTimer := .running (s.now + s.cfg.active.holdTime) } := by
  simp [State.enterHoldup]
@[simp] theorem State.enterHoldup_cfg (s : State) : (s.enterHoldup).cfg = if s.cfg.pending then { s.cfg with pending := false, outcome := .cancelled } else s.cfg := by
  cases h : s.cfg.pending <;> simp [State.enterHoldup, h]
@[simp] theorem State.enterHoldup_mnt (s : State) : (s.enterHoldup).mnt = s.mnt := by
  simp [State.enterHoldup]
@[simp] theorem State.enterHoldup_pins (s : State) : (s.enterHoldup).pins = s.pins := by
  simp [State.enterHoldup]
@[simp] theorem State.enterHoldup_array (s : State) : (s.enterHoldup).array = s.array := by
  simp [State.enterHoldup]
@[simp] theorem State.enterHoldup_rsp (s : State) : (s.enterHoldup).rsp = s.rsp := by
  simp [State.enterHoldup]
@[simp] theorem State.enterHoldup_sda (s : State) : (s.enterHoldup).sda = s.sda := by
  simp [State.enterHoldup]
@[simp] theorem State.enterHoldup_now (s : State) : (s.enterHoldup).now = s.now := by
  simp [State.enterHoldup]
@[simp] theorem State.enterHoldup_powerOns (s : State) : (s.enterHoldup).powerOns = s.powerOns := by
  simp [State.enterHoldup]
@[simp] theorem State.enterHoldup_cuts (s : State) : (s.enterHoldup).cuts = s.cuts := by
  simp [State.enterHoldup]

/-! ### State.becomeRun: the mode becoming RUN -/

@[simp] theorem State.becomeRun_pending (s : State) : (s.becomeRun).pending = s.pending := by
  unfold State.becomeRun; dsimp only; split <;> simp
@[simp] theorem State.becomeRun_pq (s : State) : (s.becomeRun).pq = s.pq := by
  unfold State.becomeRun; dsimp only; split <;> simp
@[simp] theorem State.becomeRun_rt (s : State) : (s.becomeRun).rt = s.rt := by
  unfold State.becomeRun; dsimp only; split <;> simp
@[simp] theorem State.becomeRun_ft (s : State) : (s.becomeRun).ft = s.ft := by
  unfold State.becomeRun; dsimp only; split <;> simp
@[simp] theorem State.becomeRun_seq (s : State) : (s.becomeRun).seq = s.seq := by
  unfold State.becomeRun; dsimp only; split <;> simp
@[simp] theorem State.becomeRun_rfs (s : State) : (s.becomeRun).rfs = s.rfs := by
  unfold State.becomeRun; dsimp only; split <;> simp
@[simp] theorem State.becomeRun_chk (s : State) : (s.becomeRun).chk = s.chk := by
  unfold State.becomeRun; dsimp only; split <;> simp
@[simp] theorem State.becomeRun_scr (s : State) : (s.becomeRun).scr = if s.pins.pwarn then { s.scr with timer := .stopped, due := false } else if s.cfg.active.scrubEnable then { s.scr with timer := .running (s.now + s.cfg.active.scrubTime), due := false } else s.scr := by
  cases h : s.pins.pwarn <;> cases h2 : s.cfg.active.scrubEnable <;> simp [State.becomeRun, h, h2]
@[simp] theorem State.becomeRun_flg (s : State) : (s.becomeRun).flg = s.flg := by
  unfold State.becomeRun; dsimp only; split <;> simp
@[simp] theorem State.becomeRun_mdc (s : State) : (s.becomeRun).mdc = if s.pins.pwarn then { s.mdc with mode := .holdup, holdupTimer := .running (s.now + s.cfg.active.holdTime) } else { s.mdc with mode := .run } := by
  cases h : s.pins.pwarn <;> cases h2 : s.cfg.pending <;> simp [State.becomeRun, h]
@[simp] theorem State.becomeRun_cfg (s : State) : (s.becomeRun).cfg = if s.pins.pwarn && s.cfg.pending then { s.cfg with pending := false, outcome := .cancelled } else s.cfg := by
  cases h : s.pins.pwarn <;> cases h2 : s.cfg.pending <;> simp [State.becomeRun, h, h2]
@[simp] theorem State.becomeRun_mnt (s : State) : (s.becomeRun).mnt = s.mnt := by
  unfold State.becomeRun; dsimp only; split <;> simp
@[simp] theorem State.becomeRun_pins (s : State) : (s.becomeRun).pins = s.pins := by
  unfold State.becomeRun; dsimp only; split <;> simp
@[simp] theorem State.becomeRun_array (s : State) : (s.becomeRun).array = s.array := by
  unfold State.becomeRun; dsimp only; split <;> simp
@[simp] theorem State.becomeRun_rsp (s : State) : (s.becomeRun).rsp = s.rsp := by
  unfold State.becomeRun; dsimp only; split <;> simp
@[simp] theorem State.becomeRun_sda (s : State) : (s.becomeRun).sda = s.sda := by
  unfold State.becomeRun; dsimp only; split <;> simp
@[simp] theorem State.becomeRun_now (s : State) : (s.becomeRun).now = s.now := by
  unfold State.becomeRun; dsimp only; split <;> simp
@[simp] theorem State.becomeRun_powerOns (s : State) : (s.becomeRun).powerOns = s.powerOns := by
  unfold State.becomeRun; dsimp only; split <;> simp
@[simp] theorem State.becomeRun_cuts (s : State) : (s.becomeRun).cuts = s.cuts := by
  unfold State.becomeRun; dsimp only; split <;> simp

/-! ### State.endInit: the end of INIT -/

@[simp] theorem State.endInit_pending (s : State) : (s.endInit).pending = s.pending := by
  unfold State.endInit; dsimp only; split <;> simp
@[simp] theorem State.endInit_pq (s : State) : (s.endInit).pq = s.pq := by
  unfold State.endInit; dsimp only; split <;> simp
@[simp] theorem State.endInit_rt (s : State) : (s.endInit).rt = s.rt := by
  unfold State.endInit; dsimp only; split <;> simp
@[simp] theorem State.endInit_ft (s : State) : (s.endInit).ft = s.ft := by
  unfold State.endInit; dsimp only; split <;> simp
@[simp] theorem State.endInit_seq (s : State) : (s.endInit).seq = s.seq := by
  unfold State.endInit; dsimp only; split <;> simp
@[simp] theorem State.endInit_rfs (s : State) : (s.endInit).rfs = s.startTicks.rfs := by
  unfold State.endInit; dsimp only; split <;> simp
@[simp] theorem State.endInit_chk (s : State) : (s.endInit).chk = s.chk := by
  unfold State.endInit; dsimp only; split <;> simp
@[simp] theorem State.endInit_scr (s : State) : (s.endInit).scr = if s.mdc.record.fillComplete then (if s.pins.pwarn then { s.scr with timer := .stopped, due := false } else if s.cfg.active.scrubEnable then { s.scr with timer := .running (s.now + s.cfg.active.scrubTime), due := false } else s.scr) else s.scr := by
  cases h : s.mdc.record.fillComplete <;> cases h2 : s.pins.pwarn <;> cases h3 : s.cfg.active.scrubEnable <;>
    simp [State.endInit, h, h2, h3]
@[simp] theorem State.endInit_flg (s : State) : (s.endInit).flg = s.flg := by
  unfold State.endInit; dsimp only; split <;> simp
@[simp] theorem State.endInit_mdc (s : State) : (s.endInit).mdc = if s.mdc.record.fillComplete then (if s.pins.pwarn then { s.mdc with mode := .holdup, holdupTimer := .running (s.now + s.cfg.active.holdTime) } else { s.mdc with mode := .run }) else { s.mdc with mode := .fill, fillRank := s.cfg.active.lowestRank, fillLine := 0 } := by
  cases h : s.mdc.record.fillComplete <;> cases h2 : s.pins.pwarn <;> simp [State.endInit, h, h2]
@[simp] theorem State.endInit_cfg (s : State) : (s.endInit).cfg = if s.mdc.record.fillComplete && (s.pins.pwarn && s.cfg.pending) then { s.cfg with pending := false, outcome := .cancelled } else s.cfg := by
  cases h : s.mdc.record.fillComplete <;> cases h2 : s.pins.pwarn <;> cases h3 : s.cfg.pending <;> simp [State.endInit, h, h2, h3]
@[simp] theorem State.endInit_mnt (s : State) : (s.endInit).mnt = s.mnt := by
  unfold State.endInit; dsimp only; split <;> simp
@[simp] theorem State.endInit_pins (s : State) : (s.endInit).pins = { s.pins with portReady := true } := by
  unfold State.endInit; dsimp only; split <;> simp
@[simp] theorem State.endInit_array (s : State) : (s.endInit).array = s.array := by
  unfold State.endInit; dsimp only; split <;> simp
@[simp] theorem State.endInit_rsp (s : State) : (s.endInit).rsp = s.rsp := by
  unfold State.endInit; dsimp only; split <;> simp
@[simp] theorem State.endInit_sda (s : State) : (s.endInit).sda = s.sda := by
  unfold State.endInit; dsimp only; split <;> simp
@[simp] theorem State.endInit_now (s : State) : (s.endInit).now = s.now := by
  unfold State.endInit; dsimp only; split <;> simp
@[simp] theorem State.endInit_powerOns (s : State) : (s.endInit).powerOns = s.powerOns := by
  unfold State.endInit; dsimp only; split <;> simp
@[simp] theorem State.endInit_cuts (s : State) : (s.endInit).cuts = s.cuts := by
  unfold State.endInit; dsimp only; split <;> simp

/-! ### State.advancePointer: the advance of the scrub pointer -/

@[simp] theorem State.advancePointer_pending (s : State) : (s.advancePointer).pending = s.pending := by
  unfold State.advancePointer; split
  · rfl
  · split <;> rfl
@[simp] theorem State.advancePointer_pq (s : State) : (s.advancePointer).pq = s.pq := by
  unfold State.advancePointer; split
  · rfl
  · split <;> rfl
@[simp] theorem State.advancePointer_rt (s : State) : (s.advancePointer).rt = s.rt := by
  unfold State.advancePointer; split
  · rfl
  · split <;> rfl
@[simp] theorem State.advancePointer_ft (s : State) : (s.advancePointer).ft = s.ft := by
  unfold State.advancePointer; split
  · rfl
  · split <;> rfl
@[simp] theorem State.advancePointer_seq (s : State) : (s.advancePointer).seq = s.seq := by
  unfold State.advancePointer; split
  · rfl
  · split <;> rfl
@[simp] theorem State.advancePointer_rfs (s : State) : (s.advancePointer).rfs = s.rfs := by
  unfold State.advancePointer; split
  · rfl
  · split <;> rfl
@[simp] theorem State.advancePointer_chk (s : State) : (s.advancePointer).chk = s.chk := by
  unfold State.advancePointer; split
  · rfl
  · split <;> rfl
@[simp] theorem State.advancePointer_flg (s : State) : (s.advancePointer).flg = s.flg := by
  unfold State.advancePointer; split
  · rfl
  · split <;> rfl
@[simp] theorem State.advancePointer_mdc (s : State) : (s.advancePointer).mdc = s.mdc := by
  unfold State.advancePointer; split
  · rfl
  · split <;> rfl
@[simp] theorem State.advancePointer_cfg (s : State) : (s.advancePointer).cfg = s.cfg := by
  unfold State.advancePointer; split
  · rfl
  · split <;> rfl
@[simp] theorem State.advancePointer_mnt (s : State) : (s.advancePointer).mnt = s.mnt := by
  unfold State.advancePointer; split
  · rfl
  · split <;> rfl
@[simp] theorem State.advancePointer_pins (s : State) : (s.advancePointer).pins = s.pins := by
  unfold State.advancePointer; split
  · rfl
  · split <;> rfl
@[simp] theorem State.advancePointer_array (s : State) : (s.advancePointer).array = s.array := by
  unfold State.advancePointer; split
  · rfl
  · split <;> rfl
@[simp] theorem State.advancePointer_rsp (s : State) : (s.advancePointer).rsp = s.rsp := by
  unfold State.advancePointer; split
  · rfl
  · split <;> rfl
@[simp] theorem State.advancePointer_sda (s : State) : (s.advancePointer).sda = s.sda := by
  unfold State.advancePointer; split
  · rfl
  · split <;> rfl
@[simp] theorem State.advancePointer_now (s : State) : (s.advancePointer).now = s.now := by
  unfold State.advancePointer; split
  · rfl
  · split <;> rfl
@[simp] theorem State.advancePointer_powerOns (s : State) : (s.advancePointer).powerOns = s.powerOns := by
  unfold State.advancePointer; split
  · rfl
  · split <;> rfl
@[simp] theorem State.advancePointer_cuts (s : State) : (s.advancePointer).cuts = s.cuts := by
  unfold State.advancePointer; split
  · rfl
  · split <;> rfl

/-! ### State.cutCycle: the cut of the cycle in flight -/

@[simp] theorem State.cutCycle_pending (s : State) : (s.cutCycle).pending = s.pending := by
  unfold State.cutCycle; split <;> rfl
@[simp] theorem State.cutCycle_pq (s : State) : (s.cutCycle).pq = s.pq := by
  unfold State.cutCycle; split <;> rfl
@[simp] theorem State.cutCycle_rt (s : State) : (s.cutCycle).rt = s.rt := by
  unfold State.cutCycle; split <;> rfl
@[simp] theorem State.cutCycle_ft (s : State) : (s.cutCycle).ft = s.ft := by
  unfold State.cutCycle; split <;> rfl
@[simp] theorem State.cutCycle_seq (s : State) : (s.cutCycle).seq = s.seq := by
  unfold State.cutCycle; split <;> rfl
@[simp] theorem State.cutCycle_rfs (s : State) : (s.cutCycle).rfs = s.rfs := by
  unfold State.cutCycle; split <;> rfl
@[simp] theorem State.cutCycle_chk (s : State) : (s.cutCycle).chk = s.chk := by
  unfold State.cutCycle; split <;> rfl
@[simp] theorem State.cutCycle_scr (s : State) : (s.cutCycle).scr = s.scr := by
  unfold State.cutCycle; split <;> rfl
@[simp] theorem State.cutCycle_flg (s : State) : (s.cutCycle).flg = s.flg := by
  unfold State.cutCycle; split <;> rfl
@[simp] theorem State.cutCycle_mdc (s : State) : (s.cutCycle).mdc = s.mdc := by
  unfold State.cutCycle; split <;> rfl
@[simp] theorem State.cutCycle_cfg (s : State) : (s.cutCycle).cfg = s.cfg := by
  unfold State.cutCycle; split <;> rfl
@[simp] theorem State.cutCycle_mnt (s : State) : (s.cutCycle).mnt = s.mnt := by
  unfold State.cutCycle; split <;> rfl
@[simp] theorem State.cutCycle_pins (s : State) : (s.cutCycle).pins = s.pins := by
  unfold State.cutCycle; split <;> rfl
@[simp] theorem State.cutCycle_array (s : State) : (s.cutCycle).array = if s.idle then s.array else s.arrayAfterCycle (Config.cutTakesNew s.cuts) := by
  unfold State.cutCycle; split <;> rfl
@[simp] theorem State.cutCycle_rsp (s : State) : (s.cutCycle).rsp = s.rsp := by
  unfold State.cutCycle; split <;> rfl
@[simp] theorem State.cutCycle_sda (s : State) : (s.cutCycle).sda = s.sda := by
  unfold State.cutCycle; split <;> rfl
@[simp] theorem State.cutCycle_now (s : State) : (s.cutCycle).now = s.now := by
  unfold State.cutCycle; split <;> rfl
@[simp] theorem State.cutCycle_powerOns (s : State) : (s.cutCycle).powerOns = s.powerOns := by
  unfold State.cutCycle; split <;> rfl
@[simp] theorem State.cutCycle_cuts (s : State) : (s.cutCycle).cuts = if s.idle then s.cuts else s.cuts + 1 := by
  unfold State.cutCycle; split <;> rfl

/-! ### State.resetBlocks: the reset values of every block -/

@[simp] theorem State.resetBlocks_pending (s : State) (st : Straps) (r : ResetRecord) : (s.resetBlocks st r).pending = s.pending := rfl
@[simp] theorem State.resetBlocks_pq (s : State) (st : Straps) (r : ResetRecord) : (s.resetBlocks st r).pq = [] := rfl
@[simp] theorem State.resetBlocks_rt (s : State) (st : Straps) (r : ResetRecord) : (s.resetBlocks st r).rt = [] := rfl
@[simp] theorem State.resetBlocks_ft (s : State) (st : Straps) (r : ResetRecord) : (s.resetBlocks st r).ft = fenceTableAtReset := rfl
@[simp] theorem State.resetBlocks_seq (s : State) (st : Straps) (r : ResetRecord) : (s.resetBlocks st r).seq = { s.seq with cycle := none } := rfl
@[simp] theorem State.resetBlocks_rfs (s : State) (st : Straps) (r : ResetRecord) : (s.resetBlocks st r).rfs = refreshAtReset := rfl
@[simp] theorem State.resetBlocks_chk (s : State) (st : Straps) (r : ResetRecord) : (s.resetBlocks st r).chk = Vector.replicate 4 0 := rfl
@[simp] theorem State.resetBlocks_scr (s : State) (st : Straps) (r : ResetRecord) : (s.resetBlocks st r).scr = scrubberAtReset := rfl
@[simp] theorem State.resetBlocks_flg (s : State) (st : Straps) (r : ResetRecord) : (s.resetBlocks st r).flg = faultLogAtReset := rfl
@[simp] theorem State.resetBlocks_mdc (s : State) (st : Straps) (r : ResetRecord) : (s.resetBlocks st r).mdc = modeControllerAtReset r := rfl
@[simp] theorem State.resetBlocks_cfg (s : State) (st : Straps) (r : ResetRecord) : (s.resetBlocks st r).cfg = configAtReset st := rfl
@[simp] theorem State.resetBlocks_mnt (s : State) (st : Straps) (r : ResetRecord) : (s.resetBlocks st r).mnt = maintPortAtReset st := rfl
@[simp] theorem State.resetBlocks_pins (s : State) (st : Straps) (r : ResetRecord) : (s.resetBlocks st r).pins = { s.pins with portReady := false } := rfl
@[simp] theorem State.resetBlocks_array (s : State) (st : Straps) (r : ResetRecord) : (s.resetBlocks st r).array = s.array := rfl
@[simp] theorem State.resetBlocks_rsp (s : State) (st : Straps) (r : ResetRecord) : (s.resetBlocks st r).rsp = s.rsp := rfl
@[simp] theorem State.resetBlocks_sda (s : State) (st : Straps) (r : ResetRecord) : (s.resetBlocks st r).sda = s.sda := rfl
@[simp] theorem State.resetBlocks_now (s : State) (st : Straps) (r : ResetRecord) : (s.resetBlocks st r).now = s.now := rfl
@[simp] theorem State.resetBlocks_powerOns (s : State) (st : Straps) (r : ResetRecord) : (s.resetBlocks st r).powerOns = s.powerOns := rfl
@[simp] theorem State.resetBlocks_cuts (s : State) (st : Straps) (r : ResetRecord) : (s.resetBlocks st r).cuts = s.cuts := rfl

/-! ### State.warmReset: an external or maintenance reset -/

@[simp] theorem State.warmReset_pending (s : State) (c : ResetCause) (st : Straps) : (s.warmReset c st).pending = s.pending := by
  simp [State.warmReset]
@[simp] theorem State.warmReset_pq (s : State) (c : ResetCause) (st : Straps) : (s.warmReset c st).pq = [] := by
  simp [State.warmReset]
@[simp] theorem State.warmReset_rt (s : State) (c : ResetCause) (st : Straps) : (s.warmReset c st).rt = [] := by
  simp [State.warmReset]
@[simp] theorem State.warmReset_ft (s : State) (c : ResetCause) (st : Straps) : (s.warmReset c st).ft = fenceTableAtReset := by
  simp [State.warmReset]
@[simp] theorem State.warmReset_seq (s : State) (c : ResetCause) (st : Straps) : (s.warmReset c st).seq = { s.seq with cycle := none } := by
  simp [State.warmReset]
@[simp] theorem State.warmReset_rfs (s : State) (c : ResetCause) (st : Straps) : (s.warmReset c st).rfs = refreshAtReset := by
  simp [State.warmReset]
@[simp] theorem State.warmReset_chk (s : State) (c : ResetCause) (st : Straps) : (s.warmReset c st).chk = Vector.replicate 4 0 := by
  simp [State.warmReset]
@[simp] theorem State.warmReset_scr (s : State) (c : ResetCause) (st : Straps) : (s.warmReset c st).scr = scrubberAtReset := by
  simp [State.warmReset]
@[simp] theorem State.warmReset_flg (s : State) (c : ResetCause) (st : Straps) : (s.warmReset c st).flg = faultLogAtReset := by
  simp [State.warmReset]
@[simp] theorem State.warmReset_mdc (s : State) (c : ResetCause) (st : Straps) : (s.warmReset c st).mdc = modeControllerAtReset (s.recordAtReset c) := by
  simp [State.warmReset]
@[simp] theorem State.warmReset_cfg (s : State) (c : ResetCause) (st : Straps) : (s.warmReset c st).cfg = configAtReset st := by
  simp [State.warmReset]
@[simp] theorem State.warmReset_mnt (s : State) (c : ResetCause) (st : Straps) : (s.warmReset c st).mnt = maintPortAtReset st := by
  simp [State.warmReset]
@[simp] theorem State.warmReset_pins (s : State) (c : ResetCause) (st : Straps) : (s.warmReset c st).pins = { s.pins with portReady := false } := by
  simp [State.warmReset]
@[simp] theorem State.warmReset_array (s : State) (c : ResetCause) (st : Straps) : (s.warmReset c st).array = if s.idle then s.array else s.arrayAfterCycle (Config.cutTakesNew s.cuts) := by
  simp [State.warmReset]
@[simp] theorem State.warmReset_rsp (s : State) (c : ResetCause) (st : Straps) : (s.warmReset c st).rsp = s.rsp := by
  simp [State.warmReset]
@[simp] theorem State.warmReset_sda (s : State) (c : ResetCause) (st : Straps) : (s.warmReset c st).sda = s.sda := by
  simp [State.warmReset]
@[simp] theorem State.warmReset_now (s : State) (c : ResetCause) (st : Straps) : (s.warmReset c st).now = s.now := by
  simp [State.warmReset]
@[simp] theorem State.warmReset_powerOns (s : State) (c : ResetCause) (st : Straps) : (s.warmReset c st).powerOns = s.powerOns := by
  simp [State.warmReset]
@[simp] theorem State.warmReset_cuts (s : State) (c : ResetCause) (st : Straps) : (s.warmReset c st).cuts = if s.idle then s.cuts else s.cuts + 1 := by
  simp [State.warmReset]

/-! ### State.discardQueued: the discard at the hold-up expiry -/

/-- A fold of discard reports changes the fence table and the responses alone. -/
theorem State.foldReports_frame (es : List Entry) (s : State) :
    es.foldl (fun t e => t.report e.discardReport) s =
      { s with
        ft := (es.foldl (fun t e => t.report e.discardReport) s).ft
        rsp := (es.foldl (fun t e => t.report e.discardReport) s).rsp } := by
  induction es generalizing s with
  | nil => rfl
  | cons e es ih =>
    simp only [List.foldl_cons]
    rw [ih]
    rfl

@[simp] theorem State.discardQueued_pending (s : State) : s.discardQueued.pending = s.pending := by
  unfold State.discardQueued; rw [State.foldReports_frame]
@[simp] theorem State.discardQueued_pq (s : State) : s.discardQueued.pq = s.pq.filter Entry.isWriting := by
  unfold State.discardQueued; rw [State.foldReports_frame]
@[simp] theorem State.discardQueued_rt (s : State) : s.discardQueued.rt = s.rt := by
  unfold State.discardQueued; rw [State.foldReports_frame]
@[simp] theorem State.discardQueued_seq (s : State) : s.discardQueued.seq = s.seq := by
  unfold State.discardQueued; rw [State.foldReports_frame]
@[simp] theorem State.discardQueued_rfs (s : State) : s.discardQueued.rfs = s.rfs := by
  unfold State.discardQueued; rw [State.foldReports_frame]
@[simp] theorem State.discardQueued_chk (s : State) : s.discardQueued.chk = s.chk := by
  unfold State.discardQueued; rw [State.foldReports_frame]
@[simp] theorem State.discardQueued_scr (s : State) : s.discardQueued.scr = s.scr := by
  unfold State.discardQueued; rw [State.foldReports_frame]
@[simp] theorem State.discardQueued_flg (s : State) : s.discardQueued.flg = s.flg := by
  unfold State.discardQueued; rw [State.foldReports_frame]
@[simp] theorem State.discardQueued_mdc (s : State) : s.discardQueued.mdc = s.mdc := by
  unfold State.discardQueued; rw [State.foldReports_frame]
@[simp] theorem State.discardQueued_cfg (s : State) : s.discardQueued.cfg = s.cfg := by
  unfold State.discardQueued; rw [State.foldReports_frame]
@[simp] theorem State.discardQueued_mnt (s : State) : s.discardQueued.mnt = s.mnt := by
  unfold State.discardQueued; rw [State.foldReports_frame]
@[simp] theorem State.discardQueued_pins (s : State) : s.discardQueued.pins = s.pins := by
  unfold State.discardQueued; rw [State.foldReports_frame]
@[simp] theorem State.discardQueued_array (s : State) : s.discardQueued.array = s.array := by
  unfold State.discardQueued; rw [State.foldReports_frame]
@[simp] theorem State.discardQueued_sda (s : State) : s.discardQueued.sda = s.sda := by
  unfold State.discardQueued; rw [State.foldReports_frame]
@[simp] theorem State.discardQueued_now (s : State) : s.discardQueued.now = s.now := by
  unfold State.discardQueued; rw [State.foldReports_frame]
@[simp] theorem State.discardQueued_powerOns (s : State) : s.discardQueued.powerOns = s.powerOns := by
  unfold State.discardQueued; rw [State.foldReports_frame]
@[simp] theorem State.discardQueued_cuts (s : State) : s.discardQueued.cuts = s.cuts := by
  unfold State.discardQueued; rw [State.foldReports_frame]

/-! ### The flow of an event: gates, low bytes and commands -/

/-- What becomes of a request, by the gate it meets. -/
theorem State.gated_cases (s : State) (g : Gate) (k : BitVec 3) (m : Request) (take : State → State) :
    (g = .notTaken ∧ s.gated g k m take = s) ∨ (∃ a, g = .answered a ∧ s.gated g k m take = s.answer k m a) ∨
      (g = .taken ∧ s.gated g k m take = take s) := by
  cases g with
  | notTaken => exact .inl ⟨rfl, rfl⟩
  | answered a => exact .inr (.inl ⟨a, rfl, rfl⟩)
  | taken => exact .inr (.inr ⟨rfl, rfl⟩)

/-- What a low byte does: nothing, a NACK, or the body on the held byte at an admitted register. -/
theorem State.lowByte_cases (s : State) (here : BitVec 8 → Bool) (body : Byte → State → State) :
    s.lowByte here body = s ∨ (s.mnt.transfer = .writeIgnored ∧ s.lowByte here body = s.refuseByte) ∨
      ∃ hi, s.mnt.transfer = .writeLow hi ∧ here s.mnt.pointer = true ∧ s.lowByte here body = body hi s := by
  unfold State.lowByte
  split
  · exact .inr (.inl ⟨by assumption, rfl⟩)
  · rename_i hi h
    split
    · exact .inr (.inr ⟨hi, h, by assumption, rfl⟩)
    · exact .inl rfl
  all_goals exact .inl rfl

/-- With its high byte held and the pointer at an admitted register, a low byte does what the body says. -/
theorem State.lowByte_taken (s : State) (here : BitVec 8 → Bool) (body : Byte → State → State) (hi : Byte)
    (ht : s.mnt.transfer = .writeLow hi) (hp : here s.mnt.pointer = true) : s.lowByte here body = body hi s := by
  simp [State.lowByte, ht, hp]

/-- What a command does: nothing, a NACK, or its own effect with its result placed and the register write completed. -/
theorem State.command_cases (s : State) (code : BitVec 4) (lo : Byte) (run : Byte → State → State × ResultCode) :
    s.command code lo run = s ∨ (s.mnt.transfer = .writeIgnored ∧ s.command code lo run = s.refuseByte) ∨
      ∃ hi, s.mnt.transfer = .writeLow hi ∧ s.mnt.pointer = commandAddress ∧ commandCode lo = code ∧
        s.command code lo run = ((run hi s).1.setResult code (run hi s).2).finishRegisterWrite := by
  unfold State.command
  rcases s.lowByte_cases (fun p => p == commandAddress && commandCode lo == code)
    (fun hi t => ((run hi t).1.setResult code (run hi t).2).finishRegisterWrite) with h | h | ⟨hi, h1, h2, h3⟩
  · exact .inl h
  · exact .inr (.inl h)
  · simp only [Bool.and_eq_true, beq_iff_eq] at h2
    exact .inr (.inr ⟨hi, h1, h2.1, h2.2, h3⟩)

/-- A command write that the port takes. -/
theorem State.command_taken (s : State) (code : BitVec 4) (lo : Byte) (run : Byte → State → State × ResultCode) (hi : Byte)
    (ht : s.mnt.transfer = .writeLow hi) (hp : s.mnt.pointer = commandAddress) (hc : commandCode lo = code) :
    s.command code lo run = ((run hi s).1.setResult code (run hi s).2).finishRegisterWrite := by
  unfold State.command
  exact s.lowByte_taken _ _ hi ht (by simp [hp, hc])

end Sys2Proof.Machine
end

