-- ==== Sys2Proof/Laws/Memory.lean ====
section
/-! SUPPORT. Laws/Memory.lean: the cells of the ranks: read after write, the canonical form, and what a cycle's words do
to both. -/

namespace Sys2Proof.Machine

/-! ## Cell addresses -/

/-- Different words of the ranks have different cell addresses. -/
theorem cellAddr_inj {r r' : Rank} {l l' : RankLine} {w w' : Fin 4} :
    cellAddr r l w = cellAddr r' l' w' ↔ r = r' ∧ l = l' ∧ w = w' := by
  constructor
  · intro h
    unfold cellAddr at h
    have hl := l.isLt
    have hl' := l'.isLt
    have hw := w.isLt
    have hw' := w'.isLt
    refine ⟨Fin.ext (by omega), BitVec.eq_of_toNat_eq (by omega), Fin.ext (by omega)⟩
  · rintro ⟨rfl, rfl, rfl⟩
    rfl

/-! ## Read after write -/

/-- A cell reads as what was stored there last; the others as before. -/
theorem Memory.lookup_store (m : Memory) (a b : Nat) (v : StoredWord) :
    Memory.lookup (Memory.store m a v) b = if b = a then some v else Memory.lookup m b := by
  induction m with
  | nil => simp [Memory.store, Memory.lookup, eq_comm]
  | cons p rest ih =>
    obtain ⟨k, x⟩ := p
    unfold Memory.store
    split
    · simp only [Memory.lookup, eq_comm]
    · split
      · subst a
        simp only [Memory.lookup]
        by_cases h : k = b
        · simp [h]
        · simp [h, Ne.symm h]
      · simp only [Memory.lookup, ih]
        by_cases h : k = b
        · have : ¬b = a := by omega
          simp [h, this]
        · simp [h]

/-! ## The canonical form -/

/-- The first address of a memory, if it lists any, is above `a`. -/
def Memory.above (a : Nat) : Memory → Prop
  | [] => True
  | (k, _) :: _ => a < k

theorem Memory.wf_cons {k : Nat} {x : StoredWord} {m : Memory} :
    Memory.wf ((k, x) :: m) = true ↔ Memory.above k m ∧ Memory.wf m = true := by
  cases m with
  | nil => simp [Memory.wf, Memory.above]
  | cons p rest => simp [Memory.wf, Memory.above]

theorem Memory.above_store {k a : Nat} {v : StoredWord} {m : Memory} (hm : Memory.above k m) (ha : k < a) :
    Memory.above k (Memory.store m a v) := by
  cases m with
  | nil => exact ha
  | cons p rest =>
    obtain ⟨j, y⟩ := p
    unfold Memory.store
    split
    · exact ha
    · split
      · exact ha
      · exact hm

/-- A store keeps the canonical form. -/
theorem Memory.wf_store {m : Memory} (hm : Memory.wf m = true) (a : Nat) (v : StoredWord) :
    Memory.wf (Memory.store m a v) = true := by
  induction m with
  | nil => rfl
  | cons p rest ih =>
    obtain ⟨k, x⟩ := p
    rw [Memory.wf_cons] at hm
    unfold Memory.store
    split
    · exact Memory.wf_cons.2 ⟨by assumption, Memory.wf_cons.2 hm⟩
    · split
      · subst a
        exact Memory.wf_cons.2 hm
      · exact Memory.wf_cons.2 ⟨Memory.above_store hm.1 (by omega), ih hm.2⟩

/-- Writing or not writing a word keeps the canonical form. -/
theorem wf_storeWord {m : Memory} (hm : Memory.wf m = true) (r : Rank) (l : RankLine) (w : Fin 4)
    (x : Option StoredWord) : Memory.wf (storeWord r l w x m) = true := by
  cases x with
  | none => exact hm
  | some v => exact Memory.wf_store hm _ _

/-- The words of a cycle keep the canonical form, whichever of them are written. -/
theorem State.wf_arrayAfterCycle {s : State} (hs : Memory.wf s.array = true) (takes : Fin 4 → Bool) :
    Memory.wf (s.arrayAfterCycle takes) = true := by
  unfold State.arrayAfterCycle
  split
  · exact hs
  · exact wf_storeWord (wf_storeWord (wf_storeWord (wf_storeWord hs _ _ _ _) _ _ _ _) _ _ _ _) _ _ _ _

/-! ## What a cycle's words leave in the cells -/

theorem lookup_storeWord (m : Memory) (r : Rank) (l : RankLine) (w : Fin 4) (x : Option StoredWord) (b : Nat) :
    Memory.lookup (storeWord r l w x m) b = if b = cellAddr r l w then x.or (Memory.lookup m b) else Memory.lookup m b := by
  cases x with
  | none => simp [storeWord]
  | some v => simp [storeWord, Memory.lookup_store]

/-- A cell after the words that `takes` admits have been written: a word of the cycle's line that the cycle writes and
`takes` admits is as planned, and every other cell is as before. -/
theorem State.lookup_arrayAfterCycle (s : State) (takes : Fin 4 → Bool) (r : Rank) (l : RankLine) (w : Fin 4) :
    Memory.lookup (s.arrayAfterCycle takes) (cellAddr r l w) =
      (if s.seq.cycle.bind Cycle.target = some (r, l) ∧ takes w = true then s.wordPlanned w else none).or
        (Memory.lookup s.array (cellAddr r l w)) := by
  unfold State.arrayAfterCycle
  split
  · rename_i h
    simp [h]
  · rename_i r' l' h
    simp only [lookup_storeWord, cellAddr_inj, h, Option.some.injEq, Prod.mk.injEq]
    by_cases hr : r = r'
    · by_cases hl : l = l'
      · subst hr hl
        match w with
        | 0 => simp
        | 1 => simp
        | 2 => simp
        | 3 => simp
      · have hl' : ¬l' = l := fun h => hl h.symm
        simp [hl, hl']
    · have hr' : ¬r' = r := fun h => hr h.symm
      simp [hr, hr']

end Sys2Proof.Machine
end

