-- ==== Sys2Proof/Laws/Lines.lean ====
section
/-! SUPPORT. Laws/Lines.lean: the bytes and words of a line: what a mask selects, what the queue covers and supplies, and
the words that a cycle leaves, in the terms of the statements. -/

namespace Sys2Proof.Machine

/-! ## Bytes under a mask -/

theorem maskBits_getLsbD (m : ByteMask) (i : Nat) (hi : i < 256) : (maskBits m).getLsbD i = m.getLsbD (i / 8) := by
  simp [maskBits, hi]

theorem wordMaskBits_getLsbD (m : BitVec 8) (i : Nat) (hi : i < 64) :
    (wordMaskBits m).getLsbD i = m.getLsbD (i / 8) := by
  simp [wordMaskBits, hi]

theorem lineByte_mergeBytes (m : ByteMask) (a b : LineData) (p : Nat) (hp : p < 32) :
    lineByte (mergeBytes m a b) p = if m.getLsbD p then lineByte a p else lineByte b p := by
  apply BitVec.eq_of_getLsbD_eq
  intro i hi
  have h1 : 8 * p + i < 256 := by omega
  have h2 : (8 * p + i) / 8 = p := by omega
  have h3 := maskBits_getLsbD m _ h1
  rw [h2] at h3
  by_cases h : m.getLsbD p = true <;>
    simp [lineByte, mergeBytes, -BitVec.getLsbD_eq_getElem, hi, h1, h, h3]

theorem lineByte_maskedData (m : Request) (p : Nat) (hp : p < 32) :
    lineByte (maskedData m) p = if m.mask.getLsbD p then lineByte m.data p else 0 := by
  apply BitVec.eq_of_getLsbD_eq
  intro i hi
  have h2 : (8 * p + i) / 8 = p := by omega
  have h3 := maskBits_getLsbD m.mask (8 * p + i) (by omega)
  rw [h2] at h3
  by_cases h : m.mask.getLsbD p = true <;>
    simp [lineByte, maskedData, -BitVec.getLsbD_eq_getElem, hi, h, h3]

theorem wordByte_mergeWord (m : BitVec 8) (a b : Word) (p : Nat) (hp : p < 8) :
    wordByte (mergeWord m a b) p = if m.getLsbD p then wordByte a p else wordByte b p := by
  apply BitVec.eq_of_getLsbD_eq
  intro i hi
  have h1 : 8 * p + i < 64 := by omega
  have h2 : (8 * p + i) / 8 = p := by omega
  have h3 := wordMaskBits_getLsbD m _ h1
  rw [h2] at h3
  by_cases h : m.getLsbD p = true <;>
    simp [wordByte, mergeWord, -BitVec.getLsbD_eq_getElem, hi, h1, h, h3]

theorem wordMask_getLsbD (m : ByteMask) (w : Fin 4) (p : Nat) (hp : p < 8) :
    (wordMask m w).getLsbD p = m.getLsbD (8 * w.val + p) := by
  simp [wordMask, hp, -BitVec.getLsbD_eq_getElem]

/-! ## Words of a line -/

theorem wordByte_lineWord (d : LineData) (w : Fin 4) (p : Nat) (hp : p < 8) :
    wordByte (lineWord d w) p = lineByte d (8 * w.val + p) := by
  apply BitVec.eq_of_getLsbD_eq
  intro i hi
  have h1 : 8 * p + i < 64 := by omega
  have h2 : 64 * w.val + (8 * p + i) = 8 * (8 * w.val + p) + i := by omega
  simp only [wordByte, lineByte, lineWord, BitVec.getLsbD_extractLsb', hi, h1, h2, decide_true, Bool.true_and]

theorem lineWord_lineOfWords (f : Fin 4 → Word) (w : Fin 4) : lineWord (lineOfWords f) w = f w := by
  apply BitVec.eq_of_getLsbD_eq
  intro i hi
  simp only [lineWord, lineOfWords, BitVec.getLsbD_extractLsb', hi, decide_true, Bool.true_and,
    BitVec.getLsbD_append]
  match w with
  | 0 => simp [-BitVec.getLsbD_eq_getElem, hi]
  | 1 => simp [-BitVec.getLsbD_eq_getElem, hi]
  | 2 =>
    have : ¬128 + i < 64 := by omega
    have : 128 + i - 64 = 64 + i := by omega
    simp [-BitVec.getLsbD_eq_getElem, *]
  | 3 =>
    have : ¬192 + i < 64 := by omega
    have : 192 + i - 64 = 128 + i := by omega
    have : ¬128 + i < 64 := by omega
    have : 128 + i - 64 = 64 + i := by omega
    simp [-BitVec.getLsbD_eq_getElem, *]

theorem lineByte_lineOfWords (f : Fin 4 → Word) (w : Fin 4) (p : Nat) (hp : p < 8) :
    lineByte (lineOfWords f) (8 * w.val + p) = wordByte (f w) p := by
  rw [← wordByte_lineWord _ _ _ hp, lineWord_lineOfWords]

/-- Two lines with the same bytes are the same. -/
theorem line_eq_of_bytes {a b : LineData}
    (h : ∀ w : Fin 4, ∀ p < 8, lineByte a (8 * w.val + p) = lineByte b (8 * w.val + p)) : a = b := by
  apply BitVec.eq_of_getLsbD_eq
  intro i hi
  have hb := congrArg (fun x => BitVec.getLsbD x (i % 8)) (h ⟨i / 64, by omega⟩ (i % 64 / 8) (by omega))
  simp only [lineByte, BitVec.getLsbD_extractLsb', show i % 8 < 8 by omega, decide_true, Bool.true_and] at hb
  rwa [show 8 * (8 * (i / 64) + i % 64 / 8) + i % 8 = i by omega] at hb

/-! ## Coverage of a word (00_scope 5.3) -/

/-- Data that agree at the bytes of a mask agree under the mask. -/
theorem masked_congr {m : ByteMask} {d d' : LineData}
    (h : ∀ p < 32, m.getLsbD p = true → lineByte d p = lineByte d' p) : d &&& maskBits m = d' &&& maskBits m := by
  apply line_eq_of_bytes
  intro w q hq
  have hp : 8 * w.val + q < 32 := by omega
  have h1 := lineByte_mergeBytes m d 0 _ hp
  have h2 := lineByte_mergeBytes m d' 0 _ hp
  unfold mergeBytes at h1 h2
  simp only [BitVec.zero_and, BitVec.or_zero, BitVec.ofNat_eq_ofNat] at h1 h2
  rw [h1, h2]
  split
  · exact h _ hp (by assumption)
  · rfl

theorem wordMask_eq_zero_iff (m : ByteMask) (w : Fin 4) : wordMask m w = 0 ↔ NoneWord m w := by
  constructor
  · intro h p hp
    rw [← wordMask_getLsbD m w p hp, h]
    simp
  · intro h
    apply BitVec.eq_of_getLsbD_eq
    intro i hi
    rw [wordMask_getLsbD m w i hi, h i hi]
    simp

theorem wordMask_eq_ones_iff (m : ByteMask) (w : Fin 4) : wordMask m w = 0xFF ↔ FullWord m w := by
  have e : (0xFF : BitVec 8) = BitVec.allOnes 8 := rfl
  rw [e]
  constructor
  · intro h p hp
    rw [← wordMask_getLsbD m w p hp, h]
    simp [hp, -BitVec.reduceAllOnes]
  · intro h
    apply BitVec.eq_of_getLsbD_eq
    intro i hi
    rw [wordMask_getLsbD m w i hi, h i hi]
    simp [hi, -BitVec.reduceAllOnes]

theorem coverage_full_iff (m : ByteMask) (w : Fin 4) : coverage m w = .full ↔ FullWord m w := by
  rw [← wordMask_eq_ones_iff]
  unfold coverage
  by_cases h : wordMask m w = 0xFF
  · rw [if_pos h]; exact ⟨fun _ => h, fun _ => rfl⟩
  · rw [if_neg h]; split <;> simp only [reduceCtorEq, false_iff] <;> exact h

theorem coverage_none_iff (m : ByteMask) (w : Fin 4) : coverage m w = .none ↔ NoneWord m w := by
  rw [← wordMask_eq_zero_iff]
  unfold coverage
  by_cases h : wordMask m w = 0xFF
  · rw [if_pos h, h]; simp
  · rw [if_neg h]
    by_cases h' : wordMask m w = 0
    · rw [if_pos h']; exact ⟨fun _ => h', fun _ => rfl⟩
    · rw [if_neg h']; simp only [reduceCtorEq, false_iff]; exact h'

theorem coverage_part_iff (m : ByteMask) (w : Fin 4) : coverage m w = .part ↔ PartialWord m w := by
  unfold PartialWord
  rw [← coverage_full_iff, ← coverage_none_iff]
  cases coverage m w <;> simp

theorem hasPartialWord_iff (m : ByteMask) : hasPartialWord m = true ↔ ∃ w, PartialWord m w := by
  simp only [hasPartialWord, Bool.or_eq_true, beq_iff_eq, coverage_part_iff, exists_rank, or_assoc]

/-! ## What the queue covers and supplies (R28, R30, R35) -/

theorem queueCover_getLsbD (q : List Entry) (line : LineAddr) (p : Nat) :
    (queueCover q line).getLsbD p = true ↔ ∃ e ∈ q, e.holdsByte line p := by
  have key : ∀ m : ByteMask, (q.foldl (fun m e => if e.line = line then m ||| e.mask else m) m).getLsbD p = true ↔
      m.getLsbD p = true ∨ ∃ e ∈ q, e.holdsByte line p := by
    induction q with
    | nil => simp
    | cons e q ih =>
      intro m
      rw [List.foldl_cons, ih]
      by_cases h : e.line = line <;> simp [h, Entry.holdsByte, or_assoc]
  rw [queueCover, key]
  simp

theorem queueCover_eq_ones_iff (q : List Entry) (line : LineAddr) :
    queueCover q line = BitVec.allOnes 32 ↔ ∀ p < 32, ∃ e ∈ q, e.holdsByte line p := by
  constructor
  · intro h p hp
    rw [← queueCover_getLsbD, h, BitVec.getLsbD_allOnes]
    simp [hp]
  · intro h
    apply BitVec.eq_of_getLsbD_eq
    intro i hi
    rw [(queueCover_getLsbD _ _ _).2 (h i hi), BitVec.getLsbD_allOnes]
    simp [hi]

/-- A byte that no entry holds is the base's. -/
theorem lineByte_queueMerge_of_none {line : LineAddr} {p : Nat} (hp : p < 32) {q : List Entry}
    (hq : ∀ y ∈ q, ¬y.holdsByte line p) (base : LineData) :
    lineByte (queueMerge q line base) p = lineByte base p := by
  unfold queueMerge
  induction q generalizing base with
  | nil => rfl
  | cons x q ih =>
    rw [List.foldl_cons, ih fun y h => hq y (by simp [h])]
    split
    · rename_i hx
      rw [lineByte_mergeBytes _ _ _ _ hp, if_neg]
      exact fun hm => hq x (by simp) ⟨hx, hm⟩
    · rfl

/-- A byte that some entry holds is the youngest such entry's. -/
theorem lineByte_queueMerge_of_youngest {q : List Entry} {line : LineAddr} {p : Nat} (hp : p < 32) {e : Entry}
    (h : YoungestHolding q line p e) (base : LineData) :
    lineByte (queueMerge q line base) p = lineByte e.data p := by
  obtain ⟨older, younger, rfl, he, hy⟩ := h
  have hn := lineByte_queueMerge_of_none hp hy
  unfold queueMerge at hn ⊢
  rw [List.foldl_append, List.foldl_cons, hn, if_pos he.1, lineByte_mergeBytes _ _ _ _ hp, if_pos he.2]

/-- A byte of the merge depends on that byte of the base alone. -/
theorem lineByte_queueMerge_congr (q : List Entry) (line : LineAddr) {a b : LineData} {p : Nat} (hp : p < 32)
    (h : lineByte a p = lineByte b p) : lineByte (queueMerge q line a) p = lineByte (queueMerge q line b) p := by
  unfold queueMerge
  induction q generalizing a b with
  | nil => exact h
  | cons e q ih =>
    rw [List.foldl_cons, List.foldl_cons]
    apply ih
    split
    · rw [lineByte_mergeBytes _ _ _ _ hp, lineByte_mergeBytes _ _ _ _ hp, h]
    · exact h

/-! ## Sets of words -/

theorem wordSet_getLsbD (p : Fin 4 → Bool) (w : Fin 4) : (wordSet p).getLsbD w.val = p w := by
  simp [wordSet, -BitVec.getLsbD_eq_getElem, BitVec.getLsbD_ofFnLE]

theorem IsWordSet.unique {x y : WordSet} {p : Fin 4 → Prop} (hx : IsWordSet x p) (hy : IsWordSet y p) : x = y := by
  apply BitVec.eq_of_getLsbD_eq
  intro i hi
  rw [Bool.eq_iff_iff]
  exact (hx ⟨i, hi⟩).trans (hy ⟨i, hi⟩).symm

theorem wordSet_ne_zero_iff (x : WordSet) : (x != 0) = true ↔ ∃ w : Fin 4, x.getLsbD w.val = true := by
  revert x
  decide

theorem wordsFound_isWordSet (s : State) (r : Rank) (l : RankLine) (o : WordOutcome) :
    IsWordSet (s.wordsFound r l o) fun w => (s.word r l w).outcome = o := by
  intro w
  rw [State.wordsFound, wordSet_getLsbD, decide_eq_true_eq]

theorem partialFound_isWordSet (s : State) (e : Entry) (r : Rank) (l : RankLine) (o : WordOutcome) :
    IsWordSet (s.partialFound e r l o) (MergeFinds s e r l o) := by
  intro w
  rw [State.partialFound, wordSet_getLsbD, Bool.and_eq_true, beq_iff_eq, decide_eq_true_eq, coverage_part_iff]

theorem countWords_eq_card {x : WordSet} {p : Fin 4 → Prop} [DecidablePred p] (hx : IsWordSet x p) :
    countWords x = (Finset.univ.filter p).card := by
  have hp : (fun w : Fin 4 => x.getLsbD w.val) = fun w => decide (p w) := by
    funext w
    rw [Bool.eq_iff_iff, decide_eq_true_eq]
    exact hx w
  have hu : (Finset.univ : Finset (Fin 4)) = {0, 1, 2, 3} := rfl
  rw [countWords, hp, hu]
  by_cases h0 : p 0 <;> by_cases h1 : p 1 <;> by_cases h2 : p 2 <;> by_cases h3 : p 3 <;>
    simp [Finset.filter_insert, Finset.filter_singleton, h0, h1, h2, h3]

/-! ## The words that a cycle leaves -/

/-- A word of the ranks after the words of the cycle that `takes` admits have been written. -/
theorem State.word_of_arrayAfterCycle {s t : State} {takes : Fin 4 → Bool} (ha : t.array = s.arrayAfterCycle takes)
    (hp : t.powerOns = s.powerOns) (r : Rank) (l : RankLine) (w : Fin 4) :
    t.word r l w =
      if s.seq.cycle.bind Cycle.target = some (r, l) ∧ takes w = true then (s.wordPlanned w).getD (s.word r l w)
      else s.word r l w := by
  unfold State.word
  rw [ha, hp, State.lookup_arrayAfterCycle]
  split
  · cases s.wordPlanned w <;> simp
  · simp

/-- A cycle without a line writes no word. -/
theorem State.arrayAfterCycle_of_no_target {s : State} (takes : Fin 4 → Bool) (h : s.seq.cycle.bind Cycle.target = none) :
    s.arrayAfterCycle takes = s.array := by
  unfold State.arrayAfterCycle
  rw [h]

/-- What the end of a FILL leaves unchanged: all but the mode controller, the scrubber and the commit state (R153, R154). -/
theorem State.advanceFill_frame (s : State) : s.advanceFill =
    { s with mdc := s.advanceFill.mdc, scr := s.advanceFill.scr, cfg := s.advanceFill.cfg } := by
  unfold State.advanceFill
  split
  · rfl
  · split
    · rfl
    · unfold State.endFill State.becomeRun State.startScrub State.enterHoldup State.cancelCommit
      dsimp only
      repeat' split
      all_goals rfl

/-- The completion of the cycle in flight leaves in the array every word that the cycle writes, and no other (R63). -/
theorem State.array_of_completion {s u : State} {c : Cycle} (hq : QueueSound s) (hc : s.seq.cycle = some c)
    (hu : exec c.completion s = .next u) : u.array = s.arrayAfterCycle (fun _ => true) ∧ u.powerOns = s.powerOns := by
  obtain ⟨-, -, -, -, -, hw⟩ := hq
  unfold WriteInFlight at hw
  have write : ∀ r l b, HeadWritten s r l b → ∃ e rest, s.pq = e :: rest ∧ e.isWriting = true := by
    intro r l b ⟨e, he, hwr, _⟩
    cases hp : s.pq with
    | nil => rw [hp] at he; simp at he
    | cons x rest => rw [hp] at he; simp at he; subst he; exact ⟨x, rest, rfl, by simp [Entry.isWriting, hwr]⟩
  have harr : s.beginEvent.arrayAfterCycle (fun _ => true) = s.arrayAfterCycle (fun _ => true) := rfl
  cases c with
  | plainWrite r l =>
    rw [hc] at hw
    obtain ⟨e, rest, hp, he⟩ := write _ _ _ hw
    change execDeparture s = _ at hu
    have h1 : s.beginEvent.seq.cycle = some (.plainWrite r l) := hc
    have h2 : s.beginEvent.pq = e :: rest := hp
    simp only [execDeparture, h1, h2, he, if_true] at hu
    cases hu
    unfold State.depart
    rw [← harr]
    constructor <;> simp [State.finishWords]
  | mergeWrite r l =>
    rw [hc] at hw
    obtain ⟨e, rest, hp, he⟩ := write _ _ _ hw
    change execDeparture s = _ at hu
    have h1 : s.beginEvent.seq.cycle = some (.mergeWrite r l) := hc
    have h2 : s.beginEvent.pq = e :: rest := hp
    simp only [execDeparture, h1, h2, he, if_true] at hu
    cases hu
    unfold State.depart
    rw [← harr]
    constructor <;> simp [State.finishWords]
  | lineRead r l =>
    change execLineReadCompletion s = _ at hu
    have hs : s.arrayAfterCycle (fun _ => true) = s.array := by
      unfold State.arrayAfterCycle
      rw [hc]
      simp [Cycle.target, State.wordPlanned, hc, storeWord]
    unfold execLineReadCompletion at hu
    dsimp only at hu
    rw [hs]
    split at hu <;> cases hu
    · unfold State.finishRead; constructor <;> simp
    · exact ⟨rfl, rfl⟩
  | refresh n =>
    change execRefreshCompletion s = _ at hu
    have h1 : s.beginEvent.seq.cycle = some (.refresh n) := hc
    simp only [execRefreshCompletion, h1] at hu
    cases hu
    rw [State.arrayAfterCycle_of_no_target _ (by rw [hc]; rfl)]
    exact ⟨rfl, rfl⟩
  | scrub r l =>
    change execScrubCompletion s = _ at hu
    have h1 : s.beginEvent.seq.cycle = some (.scrub r l) := hc
    simp only [execScrubCompletion, h1] at hu
    cases hu
    unfold State.finishScrub
    rw [← harr]
    constructor <;> simp [State.finishWords]
  | fill r l =>
    change execFillCompletion s = _ at hu
    have h1 : s.beginEvent.seq.cycle = some (.fill r l) := hc
    simp only [execFillCompletion, h1] at hu
    cases hu
    rw [← harr, State.advanceFill_frame]
    constructor <;> simp [State.finishWords]
  | powerUp =>
    change execPowerUpCompletion s = _ at hu
    have h1 : s.beginEvent.seq.cycle = some .powerUp := hc
    simp only [execPowerUpCompletion, h1] at hu
    cases hu
    rw [State.arrayAfterCycle_of_no_target _ (by rw [hc]; rfl)]
    unfold State.afterModeOperation
    split <;> constructor <;> simp
  | selfRefreshEntry =>
    change execSelfRefreshEntryCompletion s = _ at hu
    have h1 : s.beginEvent.seq.cycle = some .selfRefreshEntry := hc
    simp only [execSelfRefreshEntryCompletion, h1] at hu
    cases hu
    rw [State.arrayAfterCycle_of_no_target _ (by rw [hc]; rfl)]
    unfold State.finishEntry
    constructor <;> simp
  | selfRefreshExit =>
    change execSelfRefreshExitCompletion s = _ at hu
    have h1 : s.beginEvent.seq.cycle = some .selfRefreshExit := hc
    simp only [execSelfRefreshExitCompletion, h1] at hu
    cases hu
    rw [State.arrayAfterCycle_of_no_target _ (by rw [hc]; rfl)]
    unfold State.finishExit
    split <;> constructor <;> simp

/-- A word just written with a fresh code, or poisoned, is handed on as it was written (R93). -/
theorem handed_writtenWith (c : CodeForm) (d : Word) : (writtenWith c d).handed = d := by
  unfold StoredWord.handed
  split <;> rfl

/-- Each byte of a word after the array write of an entry, as the CHK hands it on: the entry's, or the old one (R94). -/
theorem wordByte_handed_wordWritten (e : Entry) (w : Fin 4) (old : StoredWord) (p : Nat) (hp : p < 8) :
    wordByte ((e.wordWritten w old).getD old).handed p =
      if e.mask.getLsbD (8 * w.val + p) then lineByte e.data (8 * w.val + p) else wordByte old.handed p := by
  unfold Entry.wordWritten
  cases h : coverage e.mask w
  · rw [coverage_full_iff] at h
    simp only [Option.getD_some, handed_writtenWith, h p hp, if_true, wordByte_lineWord _ _ _ hp]
  · simp only [Option.getD_some, handed_writtenWith]
    rw [wordByte_mergeWord _ _ _ _ hp, wordMask_getLsbD _ _ _ hp, wordByte_lineWord _ _ _ hp]
  · rw [coverage_none_iff] at h
    simp [h p hp]

end Sys2Proof.Machine
end

