-- ==== Sys2Proof/Laws/Registers.lean ====
section
/-! SUPPORT. Laws/Registers.lean: the addresses of the register window in the terms of the statements. -/

namespace Sys2Proof.Machine

/-- A register that does not exist reads as 0x0000 (R163). -/
theorem State.readRegister_of_absent (s : State) (a : BitVec 8) (h : AbsentAddress a) : s.readRegister a = 0 := by
  have key : ∀ n : Fin 256, AbsentAddress (BitVec.ofNat 8 n.val) → s.readRegister (BitVec.ofNat 8 n.val) = 0 := by
    intro n
    fin_cases n <;> intro h <;> first | rfl | (exfalso; revert h; decide)
  have hk := key ⟨a.toNat, a.isLt⟩
  simp only [BitVec.ofNat_toNat, BitVec.setWidth_eq] at hk
  exact hk h

/-- Where a register write is taken now (R162, Table 11-6). -/
theorem State.writableAt_eq (s : State) (a : BitVec 8) :
    s.writableAt a = decide (a = 0x08 ∨ a = 0x0A ∨ StagedAddress a ∧ s.cfg.pending = false) := by
  have key : ∀ (n : Fin 256) (b : Bool),
      (BitVec.ofNat 8 n.val == commandAddress || BitVec.ofNat 8 n.val == faultEnableAddress ||
        (stagedRegisterAt (BitVec.ofNat 8 n.val)).isSome && !b) =
      decide (BitVec.ofNat 8 n.val = 0x08 ∨ BitVec.ofNat 8 n.val = 0x0A ∨
        StagedAddress (BitVec.ofNat 8 n.val) ∧ b = false) := by decide +kernel
  have hk := key ⟨a.toNat, a.isLt⟩ s.cfg.pending
  simp only [BitVec.ofNat_toNat, BitVec.setWidth_eq] at hk
  exact hk

end Sys2Proof.Machine
end

