-- ==== Sys2Proof/WellFormed.lean ====
section
/-! DEFINITION. WellFormed.lean: which terms of Instr are the command their constructor names. -/

namespace Sys2Proof

open Machine

/-- Whether the operands are such that the term is the command its constructor names: an unknown kind code is 3 to 7
(R8), and the low byte of a command write carries the command's own code (Table 11-7). Every operand of the other
commands is admitted at every value of its type. -/
def Instr.wellFormed : Instr → Bool
  | .unknownKindRequest kind _ => namesNoRequest kind
  | .flush lo => commandCode lo == 1
  | .popLog lo => commandCode lo == 2
  | .clearOverflow lo => commandCode lo == 3
  | .clearCorrected lo => commandCode lo == 4
  | .commit lo => commandCode lo == 5
  | .abortCommit lo => commandCode lo == 6
  | .reset lo _ => commandCode lo == 7
  | .unknownCommand lo => namesNoCommand (commandCode lo)
  | .write _ => true
  | .read _ => true
  | .fence _ => true
  | .grant => true
  | .departure => true
  | .lineReadCompletion => true
  | .refreshCompletion => true
  | .scrubCompletion => true
  | .fillCompletion => true
  | .powerUpCompletion => true
  | .selfRefreshEntryCompletion => true
  | .selfRefreshExitCompletion => true
  | .ageTimerExpiry _ => true
  | .refreshTick _ => true
  | .scrubTimerExpiry => true
  | .holdupExpiry => true
  | .pwarnAsserted => true
  | .pwarnDeasserted => true
  | .quietPointApplication => true
  | .powerOnReset _ => true
  | .externalReset _ => true
  | .rstDeasserted => true
  | .faultEnableWrite _ => true
  | .stagedRegisterWrite _ => true
  | .headRecordRead => true
  | .registerPointerWrite _ => true
  | .readOnlyRegisterWrite _ => true
  | .storedBitFlip _ _ _ _ => true
  | .startCondition _ _ => true
  | .stopCondition => true
  | .registerWriteHighByte _ => true

end Sys2Proof
end

