-- ==== Sys2Proof/Tests/Slice0.lean ====
section
/-! SUPPORT. Tests/Slice0.lean: small tests: the well-formedness checks, one event of each command on a small state, and
for each statement with hypotheses a state and operands that meet them (`meets_…`). -/

open Sys2Proof Sys2Proof.Machine

namespace Sys2Proof.Tests

/- One test at a time: many kernel evaluations at once can exhaust the threads of a small machine. -/
set_option Elab.async false

/-! ## Helpers -/

/-- The state that a command leaves; the state itself where it stops. -/
def after (c : Instr) (s : State) : State :=
  match exec c s with
  | .next t => t
  | .fault _ => s
  | .refused _ => s

/-- Straps that enable ranks 0 and 1, of 4,194,304 lines each. -/
def straps2 : Straps := { ranks := 1, size := 0, maddr := 3 }

/-- A sound state in mode `m` with ranks 0 and 1 enabled: idle, nothing queued, each tick timer as its mode has it. -/
def inMode (m : Mode) : State :=
  { State.reset with
    cfg := configAtReset straps2
    mnt := maintPortAtReset straps2
    mdc := { modeControllerAtReset { powerOnRecord with fillComplete := m.filled } with
      mode := m, holdupTimer := if m = .holdup then .running 5000 else .stopped }
    seq := { cycle := none, condition := if m = .retain ∨ m = .resume then .selfRefresh else .active }
    rfs := if m.ticks then #v[{ debt := 0, timer := .running 78 }, { debt := 0, timer := .running 78 },
        { debt := 0, timer := .stopped }, { debt := 0, timer := .stopped }]
      else refreshAtReset
    pins := { pwarn := m = .holdup ∨ m = .retain, rst := false, portReady := m ≠ .init } }

def run : State := inMode .run

/-- `run` with a commit of the staged set pending. -/
def committing : State := { run with cfg := { run.cfg with pending := true, outcome := .accepted } }

/-- A request of source 1 with tag 5 for a line. -/
def req (line : LineAddr) (mask : ByteMask) (data : LineData) : Request :=
  { source := 1, tag := 5, line := line, mask := mask, data := data }

/-- A queue entry of a source for a line, QUEUED, open, unmarked, with the data bytes in its mask. -/
def entry (src : Source) (line : LineAddr) (mask : ByteMask) (data : LineData) : Entry :=
  { line := line, source := src, mask := mask, data := data &&& maskBits mask, state := .queued, isOpen := true, ripe := false
    fenced := false, flushed := false, faulted := false, timer := .running 200 }

/-- The mask of all 32 bytes. -/
def allBytes : ByteMask := BitVec.allOnes 32

/-- Word 0 whole and the first byte of word 1. -/
def oddBytes : ByteMask := 0x1FF

/-- The line whose byte p is p. -/
def counting : LineData := 0x1F1E1D1C1B1A191817161514131211100F0E0D0C0B0A09080706050403020100

/-- `run` with these entries. -/
def queued (q : List Entry) : State := { run with pq := q }

/-- `run` with these records. -/
def reading (q : List ReadRecord) : State := { run with rt := q }

/-- A record of source 1 with tag 5. -/
def record (line : LineAddr) (st : ReadState) : ReadRecord := { source := 1, tag := 5, line := line, state := st }

/-- A fence row PENDING for a source, with tag 9. -/
def pendingRow (src : Source) (k : Nat) : Vector FenceRow 4 :=
  (Vector.replicate 4 FenceRow.free).set src (.pending { tag := 9, remaining := k, faulted := false, discarded := false })

/-- `s` with fence rows. -/
def withRows (s : State) (rows : Vector FenceRow 4) : State := { s with ft := { s.ft with rows := rows } }

/-- A word written with a fresh code, of which data bits have flipped since. -/
def flipped (d : Word) (bits : Word) : StoredWord := { freshWord d with stored := d ^^^ bits }

/-- Line 7 of rank 0: word 0 clean, word 1 with one flip, word 2 with two, word 3 poisoned. -/
def damagedLine : Memory :=
  [(28, freshWord 0x11), (29, flipped 0x22 1), (30, flipped 0x33 3), (31, { freshWord 0x44 with code := .poison })]

/-- `s` with a cycle in flight over `damagedLine`. -/
def during (s : State) (c : Cycle) : State := { s with seq := { s.seq with cycle := some c }, array := damagedLine }

/-- The head as its drain leaves it. -/
def drained (e : Entry) : Entry := { e with state := .writing, isOpen := false }

/-- An entry for line 7 that covers word 0 whole, one byte each of words 1 and 2, and nothing of word 3. -/
def mergeEntry : Entry := drained (entry 1 7 0x000101FF counting)

def merging (e : Entry) : State := { during run (.mergeWrite 0 7) with pq := [e] }

/-- A state with work in every block. -/
def busy : State :=
  { during run (.mergeWrite 0 7) with
    pq := [{ mergeEntry with fenced := true, flushed := true }, entry 1 8 1 0, entry 2 9 oddBytes 0]
    rt := [record 7 .waiting]
    ft := { rows := pendingRow 1 1, flush := { active := true, remaining := 1, complete := false } }
    flg := { records := [{ number := 3, event := .refreshOverrun 0 }], next := 4, overflow := true, mask := 16, line := true }
    pending := [.departure] }

/-- `run` with the maintenance port in a transfer at a register. -/
def atRegister (s : State) (a : BitVec 8) (x : Transfer) : State :=
  { s with mnt := { s.mnt with pointer := a, transfer := x } }

/-- `s` with a command write awaiting its low byte. -/
def commanding (s : State) : State := atRegister s 0x08 (.writeLow 1)

/-! ## Well-formedness: each check refuses an ill-formed term -/

theorem test_wf_unknown_kind : (Instr.unknownKindRequest 2 (req 0 0 0)).wellFormed = false ∧
    (Instr.unknownKindRequest 3 (req 0 0 0)).wellFormed = true := by decide
theorem test_wf_flush : (Instr.flush 0x02).wellFormed = false ∧ (Instr.flush 0xF1).wellFormed = true := by decide
theorem test_wf_pop_log : (Instr.popLog 0x03).wellFormed = false ∧ (Instr.popLog 0x02).wellFormed = true := by decide
theorem test_wf_clear_overflow : (Instr.clearOverflow 0x02).wellFormed = false ∧
    (Instr.clearOverflow 0x03).wellFormed = true := by decide
theorem test_wf_clear_corrected : (Instr.clearCorrected 0x40).wellFormed = false ∧
    (Instr.clearCorrected 0x04).wellFormed = true := by decide
theorem test_wf_commit : (Instr.commit 0x06).wellFormed = false ∧ (Instr.commit 0x05).wellFormed = true := by decide
theorem test_wf_abort_commit : (Instr.abortCommit 0x05).wellFormed = false ∧
    (Instr.abortCommit 0x06).wellFormed = true := by decide
theorem test_wf_reset : (Instr.reset 0x08 straps2).wellFormed = false ∧
    (Instr.reset 0x07 straps2).wellFormed = true := by decide
theorem test_wf_unknown_command : (Instr.unknownCommand 0x07).wellFormed = false ∧
    (Instr.unknownCommand 0x08).wellFormed = true ∧ (Instr.unknownCommand 0x00).wellFormed = true := by decide

/-! ## One event of each command -/

theorem test_write : (after (.write (req 4 0xF 0x04030201)) (queued [entry 1 4 0xF0 0x8877665500000000])).pq =
    [entry 1 4 0xFF 0x8877665504030201] ∧
    (after (.write (req 5 0x1 0x01)) run).rsp = [responseTo 0 (req 5 1 1) .wack] := by decide +kernel
theorem test_unknown_kind : (after (.unknownKindRequest 5 (req 4 0 0)) run).rsp =
    [responseTo 5 (req 4 0 0) (.refuse .malformed)] := by decide +kernel
theorem test_read : (after (.read (req 4 0 0)) (queued [entry 0 4 allBytes counting, entry 2 4 0x3 0xBBAA])).rsp =
    [responseTo 1 (req 4 0 0) (.rdata (counting ^^^ 0x0100 ^^^ 0xBBAA) 0)] ∧
    (after (.read (req 4 0 0)) run).rt = [record 4 .waiting] := by decide +kernel
theorem test_fence : (after (.fence (req 0 0 0)) (queued [entry 1 4 1 0, entry 0 4 1 0])).ft.rows[1] =
    .pending { tag := 5, remaining := 1, faulted := false, discarded := false } ∧
    (after (.fence (req 0 0 0)) run).rsp = [responseTo 2 (req 0 0 0) (.fdone .clean)] := by decide +kernel
/-- The high mark is 12, the threshold 4: with 4 entries a due drain comes after a read, and with 12 before it. -/
theorem test_grant : (after .grant { queued (List.replicate 4 (entry 0 4 0xFF 0)) with rt := [record 9 .waiting] }).seq.cycle =
    some (.lineRead 0 9) ∧
    (after .grant { queued (List.replicate 12 (entry 0 4 0xFF 0)) with rt := [record 9 .waiting] }).seq.cycle =
      some (.plainWrite 0 4) := by decide +kernel
/-- Word 0 is written whole; word 1, with one flip, is repaired and merged; word 2, with two, is merged and poisoned; word
3 stays. The log takes the fault of word 2, and the count that of word 1. -/
theorem test_departure :
    let t := after .departure (merging mergeEntry)
    t.pq = [] ∧ t.word 0 7 0 = freshWord 0x0706050403020100 ∧ t.word 0 7 1 = freshWord 0x08 ∧
    t.word 0 7 2 = { freshWord 0x10 with code := .poison } ∧ t.word 0 7 3 = (merging mergeEntry).word 0 7 3 ∧
    t.chk[0] = 1 ∧ t.flg.records = [{ number := 0, event := .mergeUncorrectable 0 7 1 4 }] := by decide +kernel
/-- Words 2 and 3 are damaged; the queue supplies word 2 whole, so the poison set is word 3 alone. -/
theorem test_line_read : (after .lineReadCompletion { during run (.lineRead 0 7) with
      rt := [record 7 .reading], pq := [entry 2 7 0x00FF0000 counting] }).rsp =
    [{ kind := 1, source := 1, tag := 5, answer := .rdata 0x0000000000000044171615141312111000000000000000220000000000000011 8 }] := by
  decide +kernel
theorem test_refresh_completion :
    (after .refreshCompletion { during run (.refresh 0) with rfs := run.rfs.set 0 { debt := 3, timer := .running 78 } }).rfs[0] =
      { debt := 2, timer := .running 78 } := by decide +kernel
theorem test_scrub_completion :
    let t := after .scrubCompletion { during run (.scrub 0 7) with scr := { run.scr with line := 7 } }
    t.word 0 7 1 = freshWord 0x22 ∧ t.word 0 7 2 = flipped 0x33 3 ∧ t.scr.line = 8 ∧
    t.flg.records = [{ number := 0, event := .scrubUncorrectable 0 7 4 }] := by decide +kernel
/-- The last FILL of the last enabled rank leaves the pointer where it is and ends the fill (Table 10-6, steps 8 and 9). -/
theorem test_fill_completion :
    let t := after .fillCompletion { during (inMode .fill) (.fill 1 4194303) with
      mdc := { (inMode .fill).mdc with fillRank := 1, fillLine := 4194303 } }
    t.mdc.mode = .run ∧ t.mdc.record.fillComplete = true ∧ t.mdc.fillRank = 1 ∧ t.mdc.fillLine = 4194303 ∧
    t.word 1 4194303 2 = freshWord 0 := by decide +kernel
theorem test_power_up_completion :
    let t := after .powerUpCompletion { inMode .init with seq := { cycle := some .powerUp, condition := .cold } }
    t.mdc.mode = .fill ∧ t.seq = { cycle := none, condition := .active } ∧ t.pins.portReady = true ∧
    t.rfs[1].timer = .running 78 ∧ t.rfs[2].timer = .stopped := by decide +kernel
theorem test_self_refresh_entry_completion :
    let t := after .selfRefreshEntryCompletion { inMode .holdup with
      seq := { cycle := some .selfRefreshEntry, condition := .selfRefresh }, rt := [record 4 .waiting] }
    t.mdc.mode = .retain ∧ t.rt = [] ∧ t.rfs[0].timer = .stopped ∧
    t.rsp = [{ kind := 1, source := 1, tag := 5, answer := .refuse .halted }] := by decide +kernel
theorem test_self_refresh_exit_completion :
    let t := after .selfRefreshExitCompletion { inMode .resume with
      seq := { cycle := some .selfRefreshExit, condition := .selfRefresh } }
    t.mdc.mode = .run ∧ t.seq = { cycle := none, condition := .active } ∧ t.rfs[0] = { debt := 0, timer := .running 78 } := by
  decide +kernel
theorem test_age_timer_expiry : (after (.ageTimerExpiry 1) { queued [entry 0 4 1 0, entry 1 4 1 0] with now := 200 }).pq =
    [entry 0 4 1 0, { entry 1 4 1 0 with ripe := true, timer := .stopped }] := by decide +kernel
theorem test_refresh_tick :
    let t := after (.refreshTick 0) { run with now := 78, rfs := run.rfs.set 0 { debt := 8, timer := .running 78 } }
    t.rfs[0] = { debt := 8, timer := .running 156 } ∧
    t.flg.records = [{ number := 0, event := .refreshOverrun 0 }] := by decide +kernel
theorem test_scrub_timer_expiry :
    (after .scrubTimerExpiry { run with now := 10000, scr := { run.scr with timer := .running 10000 } }).scr =
      { run.scr with timer := .running 20000, due := true } := by decide +kernel
/-- Section 8.6, step 7: the WRITING entry stays, the fence of source 3 is answered before the WAITING read. -/
theorem test_holdup_expiry :
    let t := after .holdupExpiry { inMode .holdup with
      now := 5000, pq := [drained (entry 1 4 0xFF 0), { entry 3 5 0xFF 0 with isOpen := false, fenced := true }]
      rt := [record 4 .waiting], ft := { fenceTableAtReset with rows := pendingRow 3 1 } }
    t.pq = [drained (entry 1 4 0xFF 0)] ∧ t.ft.rows[3] = .free ∧
    t.rsp = [{ kind := 2, source := 3, tag := 9, answer := .fdone .discarded },
             { kind := 1, source := 1, tag := 5, answer := .refuse .halted }] ∧
    t.flg.records = [{ number := 0, event := .holdupDiscard 1 }] := by decide +kernel
theorem test_pwarn_asserted : (after .pwarnAsserted committing).mdc.mode = .holdup ∧
    (after .pwarnAsserted committing).cfg.outcome = .cancelled ∧
    (after .pwarnAsserted committing).mdc.holdupTimer = .running 5000 := by decide +kernel
theorem test_pwarn_deasserted : (after .pwarnDeasserted (inMode .retain)).mdc.mode = .resume ∧
    (after .pwarnDeasserted (inMode .holdup)).mdc.mode = .run := by decide +kernel
theorem test_quiet_point_application : (after .quietPointApplication committing).cfg.outcome = .applied ∧
    (after .quietPointApplication { committing with rt := [record 4 .waiting] }).cfg.pending = true := by decide +kernel
/-- Table 10-2: what a power-on reset and an external reset leave in the reset record. -/
theorem test_resets_at_pins :
    (after (.powerOnReset { straps := straps2, rstAsserted := true, pwarnAsserted := false }) busy).mdc.record = powerOnRecord ∧
    (after (.externalReset straps2) (merging mergeEntry)).mdc.record =
      { cause := .external, modeAtReset := some .run, discarded := 1, writeCut := true, fillComplete := true } := by
  decide +kernel
theorem test_rst_deasserted : (after .rstDeasserted { State.reset with pins := { State.reset.pins with rst := true } }).pins.rst =
    false := by decide +kernel
theorem test_flush : (after (.flush 1) (commanding (queued [entry 1 4 1 0]))).pq =
    [{ entry 1 4 1 0 with flushed := true, isOpen := false }] ∧
    (after (.flush 1) (commanding run)).ft.flush.complete = true := by decide +kernel
theorem test_pop_log : (after (.popLog 2) (commanding busy)).flg.records = [] ∧
    (after (.popLog 2) (commanding busy)).flg.line = false ∧
    (after (.popLog 2) (commanding run)).mnt.result = { result := .empty, command := 2 } := by decide +kernel
theorem test_clear_overflow : (after (.clearOverflow 3) (commanding busy)).flg.overflow = false := by decide +kernel
/-- The rank argument, in the high byte held, is 1. -/
theorem test_clear_corrected : (after (.clearCorrected 4) (commanding { run with chk := #v[7, 8, 9, 10] })).chk =
    #v[7, 0, 9, 10] := by decide +kernel
theorem test_commit : (after (.commit 5) (commanding run)).cfg.outcome = .accepted ∧
    (after (.commit 5) (commanding (inMode .fill))).cfg.outcome = .rejected .notRunning := by decide +kernel
theorem test_abort_commit : (after (.abortCommit 6) (commanding committing)).cfg.outcome = .aborted ∧
    (after (.abortCommit 6) (commanding run)).mnt.result.result = .notPending := by decide +kernel
theorem test_reset : (after (.reset 7 straps2) (commanding busy)).mdc.record =
    { cause := .maintenance, modeAtReset := some .run, discarded := 3, writeCut := true, fillComplete := true } ∧
    (after (.reset 7 straps2) (commanding busy)).sda = [.ack] := by decide +kernel
theorem test_unknown_command : (after (.unknownCommand 9) (commanding run)).mnt.result =
    { result := .unknown, command := 9 } := by decide +kernel
theorem test_fault_enable_write : (after (.faultEnableWrite 0x2F) (atRegister busy 0x0A (.writeLow 0))).flg.line = false ∧
    (after (.faultEnableWrite 0x3F) (atRegister busy 0x0A (.writeLow 0))).flg.line = true := by decide +kernel
/-- Section 11.5, steps 1 and 5: 0x0021 enables rank 2 with 512 MiB; a staged register is read-only while PENDING. -/
theorem test_staged_register_write :
    (after (.stagedRegisterWrite 0x21) (atRegister run 0x38 (.writeLow 0))).cfg.staged.ranks[2] =
      { enable := true, size := .mib512, base := 0x800000 } ∧
    (after (.stagedRegisterWrite 0x21) (atRegister committing 0x38 (.writeLow 0))).sda = [.nack] := by decide +kernel
/-- The snapshot of record 3, a REFRESH_OVERRUN: present, kind 4, number 3. -/
theorem test_head_record_read : (after .headRecordRead (atRegister busy 0x0C .readHigh)).sda = [.byte 0x84] ∧
    (after .headRecordRead (after .headRecordRead (atRegister busy 0x0C .readHigh))).sda = [.byte 0x03] := by decide +kernel
theorem test_register_pointer_write :
    (after (.registerPointerWrite 0x38) (atRegister run 0 .writePointer)).mnt.pointer = 0x38 := by decide +kernel
/-- Section 11.5, step 2. -/
theorem test_read_only_register_write :
    (after (.readOnlyRegisterWrite 0x12) (atRegister run 0x3B .writeHigh)).sda = [.nack] := by decide +kernel
/-- A flip of a bit of a word twice leaves it as it was. -/
theorem test_stored_bit_flip : ((after (.storedBitFlip 0 7 1 (.data 63)) (merging mergeEntry)).word 0 7 1).outcome = .uncorrectable ∧
    (after (.storedBitFlip 0 7 0 (.code 5)) (after (.storedBitFlip 0 7 0 (.code 5)) (merging mergeEntry))).array = damagedLine := by
  decide +kernel
theorem test_start_condition : (after (.startCondition 0x5F .write) run).mnt.transfer = .writePointer ∧
    (after (.startCondition 0x5E .write) run).sda = [] := by decide +kernel
theorem test_stop_condition : (after .stopCondition (atRegister run 0x30 (.writeLow 1))).mnt.transfer = .idle := by
  decide +kernel
theorem test_register_write_high_byte :
    (after (.registerWriteHighByte 0x12) (atRegister run 0x30 .writeHigh)).mnt.transfer = .writeLow 0x12 := by decide +kernel
/-- The straps select 2 ranks of 128 MiB: the registers as Table 11-8 lays them out. -/
theorem test_registers : run.readRegister 0x04 = 0x0002 ∧ (inMode .holdup).readRegister 0x04 = 0x0103 ∧
    busy.readRegister 0x05 = 0x1103 ∧ run.readRegister 0x34 = 0x0001 ∧ run.readRegister 0x35 = 0x0040 ∧
    run.readRegister 0x40 = 0x064E ∧ run.readRegister 0x71 = 0x0000 := by decide +kernel

/-! ## For each statement with hypotheses, a state and operands that meet them -/

theorem meets_IdleStepPassesTime : run.pending = [] ∧ run.someTimerDue = false ∧
    ({ run with now := 78 } : State).someTimerDue = true := by decide +kernel

/-- `busy` is sound, with work in every block, and its step takes a departure. -/
theorem meets_StepKeeps_sound : Sound busy ∧ ∃ t, step busy = .next t := by
  refine ⟨⟨⟨by decide +kernel, by decide +kernel, by decide +kernel, by decide +kernel, by decide +kernel, ?_⟩,
    ⟨fun src => ?_, by decide +kernel, by decide +kernel⟩,
    ⟨by decide +kernel, by decide +kernel, by decide +kernel, by decide +kernel, ?_⟩,
    by decide +kernel, by decide +kernel, ⟨?_, ?_, ?_, ?_⟩, by decide +kernel,
    ⟨by decide +kernel, by decide +kernel, by decide +kernel, by decide +kernel, by decide +kernel, by decide +kernel, ?_,
      ?_, by decide +kernel, by decide +kernel, by decide +kernel, by decide +kernel, by decide +kernel, by decide +kernel,
      by decide +kernel, by decide +kernel⟩,
    by decide +kernel⟩, _, rfl⟩
  · exact ⟨_, rfl, rfl, by decide +kernel, by decide +kernel, by decide +kernel⟩
  · match src with
    | 0 => show busy.fencedOf 0 = 0; decide +kernel
    | 1 => show 1 = busy.fencedOf 1 ∧ 1 ≤ busy.fencedOf 1; decide +kernel
    | 2 => show busy.fencedOf 2 = 0; decide +kernel
    | 3 => show busy.fencedOf 3 = 0; decide +kernel
  · show ∀ x ∈ busy.rt, x.state = .waiting
    decide +kernel
  · intro e he
    simp only [busy, List.mem_cons, List.not_mem_nil, or_false] at he
    rcases he with rfl | rfl | rfl <;> exact Nat.zero_le _
  · intro n
    match n with
    | 0 => exact Nat.zero_le _
    | 1 => exact Nat.zero_le _
    | 2 => trivial
    | 3 => trivial
  · trivial
  · trivial
  · intro c hc
    cases hc
    rfl
  · rfl

/-- A legal set, and sets that fail from some test of Table 9-3 on, each reported by the first. -/
theorem test_commit_check :
    let ok := run.cfg.staged
    let bad := { ok with drainThreshold := 0, refreshInterval := 9, urgentLevel := 1, holdupTime := 0, scrubInterval := 0 }
    let rank1 := fun (b : BitVec 28) => { bad with ranks := ok.ranks.set 1 { enable := true, size := .mib256, base := b } }
    [ok, rank1 0x8400000, rank1 0x8000000, rank1 0, { bad with ranks := ok.ranks.map fun x => { x with enable := false } }, bad,
      { bad with drainThreshold := 12 }, { bad with drainThreshold := 12, refreshInterval := 10 },
      { ok with holdupTime := 0, scrubInterval := 0 }, { ok with correctedThreshold := 0 }].map commitCheck =
    none :: commitTests.map some := by decide +kernel

theorem meets_CommitCheckAdmitsLegalSets : commitTests = [] ++ .align :: commitTests.tail ∧
    commitTests = commitTests.dropLast ++ .scrub :: [] := by decide

theorem meets_LineDecodesByWindow : ConfigSound run ∧ run.cfg.active.rankOf 0 = some 0 ∧
    run.cfg.active.rankOf 4194303 = some 0 ∧ run.cfg.active.rankOf 4194304 = some 1 ∧
    run.cfg.active.rankOf 8388607 = some 1 ∧ run.cfg.active.rankOf 8388608 = none := by decide +kernel

/-- Two WRITEs that differ at a byte outside the mask alone, and the first and the last row of the response codes. -/
theorem meets_RequestPortMessages : 3 ≤ (3 : BitVec 3).toNat ∧ 3 ≤ (7 : BitVec 3).toNat ∧
    (req 4 1 0).data ≠ (req 4 1 0xFF00).data ∧
    (∀ p < 32, (req 4 1 0).mask.getLsbD p = true → lineByte (req 4 1 0).data p = lineByte (req 4 1 0xFF00).data p) ∧
    (responseTo 5 (req 4 0 0) (.refuse .malformed)).message =
      { kind := 5, source := 1, tag := 5, response := 4, code := 2, poison := 0, data := 0 } := by decide +kernel

theorem meets_RequestsAnsweredByMode : State.reset.pins.portReady = false ∧
    (run.pins.portReady = true ∧ committing.mdc.mode = .run ∧ committing.cfg.pending = true) ∧
    (inMode .fill).pins.portReady = true ∧ (inMode .resume).pins.portReady = true ∧
    (inMode .holdup).pins.portReady = true ∧ (inMode .retain).pins.portReady = true := by decide +kernel

theorem meets_UnknownKindAnsweredAsWrite : 3 ≤ (3 : BitVec 3).toNat ∧ 3 ≤ (7 : BitVec 3).toNat ∧
    run.pins.portReady = true ∧ run.mdc.mode = .run ∧ run.cfg.pending = false := by decide +kernel

theorem meets_RequestsRefusedOrRetried_writes : run.pins.portReady = true ∧ run.mdc.mode = .run ∧ run.cfg.pending = false ∧
    (req 0 0 0).mask = 0 ∧ ((req 8388608 1 0).mask ≠ 0 ∧ run.cfg.active.rankOf 8388608 = none) ∧
    (∃ n, run.cfg.active.rankOf 5 = some n) ∧ 16 ≤ (queued (List.replicate 16 (entry 0 4 1 0))).pq.length ∧
    ∀ e ∈ (queued (List.replicate 16 (entry 0 4 1 0))).pq, ¬(e.isOpen = true ∧ e.source = 1 ∧ e.line = 5) := by
  decide +kernel

theorem meets_WriteCoalesces : QueueSound (queued [entry 0 4 1 0, entry 1 4 1 0]) ∧
    (queued [entry 0 4 1 0, entry 1 4 1 0]).pq = [entry 0 4 1 0] ++ entry 1 4 1 0 :: [] ∧
    (entry 1 4 1 0).isOpen = true ∧ (entry 1 4 1 0).source = (req 4 2 0).source := by
  refine ⟨⟨by decide +kernel, by decide +kernel, by decide +kernel, by decide +kernel, by decide +kernel, ?_⟩,
    rfl, rfl, rfl⟩
  show ∀ e ∈ (queued [entry 0 4 1 0, entry 1 4 1 0]).pq, e.state = .queued
  decide +kernel

/-- The last free place: 15 entries, one of them the source's open entry for another line. -/
theorem meets_WriteAppends : (queued (List.replicate 15 (entry 1 4 1 0))).pq.length < 16 ∧ (req 5 1 0).mask ≠ 0 ∧
    (∃ n, run.cfg.active.rankOf 5 = some n) ∧
    ∀ e ∈ (queued (List.replicate 15 (entry 1 4 1 0))).pq, ¬(e.isOpen = true ∧ e.source = 1 ∧ e.line = 5) := by
  decide +kernel

theorem run_pair_free : ¬PairHeld run 1 5 := by
  rw [← State.pairHeld_iff]
  decide +kernel

theorem meets_RequestsRefusedOrRetried_reads : PairHeld (reading [record 4 .waiting]) 1 5 ∧
    PairHeld (withRows run (pendingRow 1 1)) 1 9 ∧ run.cfg.active.rankOf 8388608 = none ∧
    (∃ n, run.cfg.active.rankOf 4 = some n) ∧ 8 ≤ (reading (List.replicate 8 { record 4 .waiting with tag := 0 })).rt.length ∧
    ¬PairHeld (reading (List.replicate 8 { record 4 .waiting with tag := 0 })) 1 5 ∧
    ∃ p < 32, ∀ e ∈ (queued [entry 1 4 0x7FFFFFFF 0]).pq, ¬e.holdsByte 4 p := by
  refine ⟨.inl (by decide +kernel), .inr ⟨_, rfl, rfl⟩, by decide +kernel, by decide +kernel, by decide +kernel, ?_, 31,
    by decide, ?_⟩
  · rw [← State.pairHeld_iff]
    decide +kernel
  · show ∀ e ∈ (queued [entry 1 4 0x7FFFFFFF 0]).pq, ¬(e.line = 4 ∧ e.mask.getLsbD 31 = true)
    decide +kernel

/-- Two entries of two sources cover the line together; byte 31 is the younger's. -/
theorem meets_ReadForwardedFromQueue : ¬PairHeld (queued [entry 0 4 allBytes 0, entry 1 4 0x80000000 0]) 1 5 ∧
    (∀ p < 32, ∃ e ∈ (queued [entry 0 4 allBytes 0, entry 1 4 0x80000000 0]).pq, e.holdsByte 4 p) ∧
    YoungestHolding (queued [entry 0 4 allBytes 0, entry 1 4 0x80000000 0]).pq 4 31 (entry 1 4 0x80000000 0) := by
  refine ⟨?_, ?_, [entry 0 4 allBytes 0], [], rfl, ?_, by simp⟩
  · rw [← State.pairHeld_iff]
    decide +kernel
  · show ∀ p < 32, ∃ e ∈ (queued [entry 0 4 allBytes 0, entry 1 4 0x80000000 0]).pq, e.line = 4 ∧ e.mask.getLsbD p = true
    decide +kernel
  · exact ⟨rfl, by decide⟩

theorem meets_ReadAddsRecord : ¬PairHeld (reading (List.replicate 7 { record 4 .waiting with tag := 0 })) 1 5 ∧
    (reading (List.replicate 7 { record 4 .waiting with tag := 0 })).rt.length < 8 ∧
    (∃ p < 32, ∀ e ∈ run.pq, ¬e.holdsByte 4 p) ∧
    ((inMode .holdup).pins.portReady = true ∧ (inMode .holdup).mdc.mode = .holdup) := by
  refine ⟨?_, by decide +kernel, ⟨0, by decide, fun e he => absurd he (List.not_mem_nil)⟩, by decide +kernel⟩
  rw [← State.pairHeld_iff]
  decide +kernel

theorem meets_FenceAnsweredOrPending : PairHeld (reading [record 4 .waiting]) 1 5 ∧
    (¬PairHeld (withRows run (pendingRow 1 1)) 1 5 ∧
      (withRows run (pendingRow 1 1)).ft.rows[1] = .pending { tag := 9, remaining := 1, faulted := false, discarded := false }) ∧
    (∀ e ∈ run.pq, e.source ≠ 1) ∧
    (¬PairHeld (queued [entry 1 4 1 0]) 1 5 ∧ (queued [entry 1 4 1 0]).ft.rows[1] = .free ∧
      ∃ e ∈ (queued [entry 1 4 1 0]).pq, e.source = 1) := by
  refine ⟨.inl (by decide +kernel), ⟨?_, by decide +kernel⟩, by decide +kernel, ?_, by decide +kernel⟩
  · rw [← State.pairHeld_iff]
    decide +kernel
  · rw [← State.pairHeld_iff]
    decide +kernel

/-- `run` with the debts of ranks 0 and 1. -/
def owing (a b : Nat) : State :=
  { run with rfs := (run.rfs.set 0 { debt := a, timer := .running 78 }).set 1 { debt := b, timer := .running 78 } }

/-- At equal debts at the urgent level 6, the lower number. -/
theorem meets_GrantTakesUrgentRefresh : WorkGrantable (owing 6 6) ∧ UrgentRank (owing 6 6) 0 ∧
    (∀ m : Rank, UrgentRank (owing 6 6) m → RefreshBefore (owing 6 6) 0 m) ∧ UrgentRank (owing 6 8) 1 ∧
    ∀ m : Rank, UrgentRank (owing 6 8) m → RefreshBefore (owing 6 8) 1 m := by decide +kernel

/-- Pressing at the high mark, due at the threshold, due by a ripe head; in whole words, and in part. -/
theorem meets_GrantTakesDrain : (∀ m : Rank, ¬UrgentRank run m) ∧ WorkGrantable (queued (List.replicate 12 (entry 0 4 0xFF 0))) ∧
    Pressing (queued (List.replicate 12 (entry 0 4 0xFF 0))) ∧
    (ThresholdOrRipe (queued (List.replicate 4 (entry 0 4 0xFF 0))) ∧ NoneWaiting (queued (List.replicate 4 (entry 0 4 0xFF 0)))) ∧
    ThresholdOrRipe (queued [{ entry 0 4 1 0 with ripe := true }]) ∧
    (∀ w, ¬PartialWord (entry 0 4 0xFF 0).mask w) ∧ ∃ w, PartialWord (entry 0 4 1 0).mask w := by decide +kernel

theorem meets_GrantTakesRead : WorkGrantable (reading [record 4 .waiting]) ∧ (∀ m : Rank, ¬UrgentRank (owing 5 5) m) ∧
    NoPressingDrain { queued (List.replicate 11 (entry 0 4 0xFF 0)) with rt := [record 4 .waiting] } ∧
    (reading [record 4 .waiting]).rt = [] ++ record 4 .waiting :: [] ∧ run.cfg.active.rankOf 4 = some 0 := by decide +kernel

theorem meets_GrantTakesBackgroundWork : (WorkGrantable (inMode .fill) ∧ NoDrain (inMode .fill) ∧ NoneWaiting (inMode .fill)) ∧
    (WorkGrantable (owing 1 5) ∧ (∀ m : Rank, ¬UrgentRank (owing 1 5) m) ∧ NoDrain (owing 1 5) ∧ NoneWaiting (owing 1 5) ∧
      ∀ m : Rank, 1 ≤ (owing 1 5).rfs[m].debt → RefreshBefore (owing 1 5) 1 m) ∧
    ((∀ m : Rank, run.rfs[m].debt = 0) ∧ ({ run with scr := { run.scr with due := true } } : State).scr.due = true) := by
  decide +kernel

theorem meets_GrantTakesModeOperation : (State.reset.seq.cycle = none ∧ State.reset.pins.rst = false ∧
      State.reset.mdc.mode = .init ∧ State.reset.seq.condition ≠ .selfRefresh) ∧
    ((inMode .resume).seq.cycle = none ∧ (inMode .resume).seq.condition = .selfRefresh) ∧
    ((inMode .holdup).seq.condition = .active ∧ (inMode .holdup).pq = [] ∧ (inMode .holdup).rt = [] ∧
      RowsFree (inMode .holdup)) := by decide +kernel

theorem meets_GrantWithoutGrantableClaim : busy.seq.cycle ≠ none ∧
    ({ State.reset with pins := { State.reset.pins with rst := true } } : State).pins.rst = true ∧
    ((inMode .retain).seq.condition = .selfRefresh ∧ (inMode .retain).mdc.mode ≠ .init ∧ (inMode .retain).mdc.mode ≠ .resume) ∧
    ({ run with seq := { cycle := none, condition := .cold } } : State).seq.condition = .cold ∧
    (run.mdc.mode = .run ∧ (∀ m : Rank, run.rfs[m].debt = 0) ∧ NoDrain (queued [entry 0 4 1 0]) ∧ NoneWaiting run ∧
      run.scr.due = false) := by decide +kernel

theorem meets_WordOutcomeByFlips : ([.data 0, .data 63, .code 0] : List StoredBit).Nodup ∧ ([] : List StoredBit).Nodup := by
  decide

theorem meets_FaultTakenIntoLog : busy.flg.records.length < 8 ∧
    8 ≤ (List.replicate 8 ({ number := 0, event := .refreshOverrun 0 } : FaultRecord)).length := by decide +kernel

/-- Every clause of the four statements on DEPARTURE: `merging mergeEntry` has a FULL, a NONE and PARTIAL words, one of
them CORRECTED and one UNCORRECTABLE; `busy` has the head fenced and flushed with remaining 1. -/
theorem meets_Departure : WritingHead (merging mergeEntry) mergeEntry [] 0 7 ∧ FullWord mergeEntry.mask 0 ∧
    NoneWord mergeEntry.mask 3 ∧ PartialWord mergeEntry.mask 1 ∧ MergeFinds (merging mergeEntry) mergeEntry 0 7 .uncorrectable 2 ∧
    IsWordSet 4 (MergeFinds (merging mergeEntry) mergeEntry 0 7 .uncorrectable) ∧
    (Finset.univ.filter fun w => MergeFinds (merging mergeEntry) mergeEntry 0 7 .corrected w).card = 1 := by decide +kernel

theorem meets_DepartureCounted : (true = true ↔ mergeEntry.faulted = true ∨
      ∃ w, MergeFinds busy mergeEntry 0 7 .uncorrectable w ∨ MergeFinds busy mergeEntry 0 7 .poisoned w) ∧
    busy.ft.rows[1] = .pending { tag := 9, remaining := 1, faulted := false, discarded := false } ∧
    (withRows busy (pendingRow 1 2)).ft.rows[1] = .pending { tag := 9, remaining := 2, faulted := false, discarded := false } ∧
    busy.ft.flush = { active := true, remaining := 1, complete := false } ∧ mergeEntry.fenced = false ∧
    mergeEntry.flushed = false := by decide +kernel

theorem meets_DepartureKeepsReads : (∃ r l, busy.seq.cycle = some (.plainWrite r l) ∨ busy.seq.cycle = some (.mergeWrite r l)) ∧
    (∃ t, exec .departure busy = .next t) ∧ busy.cfg.active.rankOf 7 = some 0 :=
  ⟨⟨0, 7, .inr rfl⟩, ⟨_, rfl⟩, by decide +kernel⟩

theorem meets_LineRead : ReadingRecord { during run (.lineRead 0 7) with rt := [record 7 .reading, record 8 .waiting] }
      (record 7 .reading) [record 8 .waiting] 0 7 ∧
    IsWordSet 4 (fun w => ((during run (.lineRead 0 7)).word 0 7 w).outcome = .uncorrectable) ∧
    (Finset.univ.filter fun w => ((during run (.lineRead 0 7)).word 0 7 w).outcome = .corrected).card = 1 ∧
    ∀ w : Fin 4, ∀ p < 8, ∀ e ∈ run.pq, ¬(e.line = 7 ∧ e.mask.getLsbD (8 * w.val + p) = true) := by decide +kernel

theorem meets_RefreshTickRaisesDebt : ({ owing 7 8 with now := 78 } : State).rfs[0] = { debt := 7, timer := .running 78 } ∧
    ({ owing 7 8 with now := 78 } : State).rfs[1] = { debt := 8, timer := .running 78 } ∧ run.seq.cycle ≠ some (.refresh 0) := by
  decide +kernel

theorem meets_RefreshCompletionPaysDebt : (during run (.refresh 1)).seq.cycle = some (.refresh 1) := by decide +kernel

theorem meets_ScrubWritesAndReports : (during run (.scrub 0 7)).seq.cycle = some (.scrub 0 7) ∧
    (7 : LineAddr).toNat = (during run (.scrub 0 7)).cfg.active.ranks[0].base.toNat + (7 : RankLine).toNat ∧
    IsWordSet 4 (fun w => ((during run (.scrub 0 7)).word 0 7 w).outcome = .uncorrectable) := by decide +kernel

/-- The last line of rank 0, after which rank 1 comes, and the last of rank 1, after which rank 0 does. -/
theorem meets_PointerAdvance : run.cfg.active.ranks[0].size.lines ≤ (4194303 : RankLine).toNat + 1 ∧
    (4194302 : RankLine).toNat + 1 < run.cfg.active.ranks[0].size.lines ∧ NextEnabled run.cfg.active 0 1 ∧
    (∀ k : Rank, 1 < k → run.cfg.active.ranks[k].enable = false) ∧ LowestEnabled run.cfg.active 0 := by decide +kernel

theorem meets_FillCompletes : (during (inMode .fill) (.fill 1 4194303)).seq.cycle = some (.fill 1 4194303) ∧
    (inMode .fill).cfg.pending = false ∧ (inMode .fill).pins.pwarn = false ∧
    ({ inMode .fill with pins := { (inMode .fill).pins with pwarn := true } } : State).pins.pwarn = true := by decide +kernel

theorem meets_InitEnds : (inMode .init).mdc.mode = .init ∧ (inMode .init).cfg.pending = false ∧
    (inMode .init).mdc.record.fillComplete = false ∧ LowestEnabled (inMode .init).cfg.active 0 ∧
    ({ inMode .init with seq := { cycle := some .selfRefreshExit, condition := .selfRefresh } } : State).seq.cycle =
      some .selfRefreshExit ∧
    ({ inMode .init with mdc := modeControllerAtReset { powerOnRecord with fillComplete := true } } : State).mdc.record.fillComplete =
      true := by decide +kernel

theorem meets_ModeOperations : ({ inMode .holdup with seq := { cycle := some .selfRefreshEntry, condition := .selfRefresh } } :
      State).seq.cycle = some .selfRefreshEntry ∧
    (inMode .resume).mdc.mode = .resume ∧ (inMode .resume).cfg.pending = false ∧
    ({ inMode .resume with seq := { cycle := some .selfRefreshExit, condition := .selfRefresh } } : State).seq.cycle =
      some .selfRefreshExit := by decide +kernel

theorem meets_AgeAndScrubTimersExpire : (queued (List.replicate 15 (entry 0 4 1 0) ++ [entry 1 4 1 0])).pq =
      List.replicate 15 (entry 0 4 1 0) ++ entry 1 4 1 0 :: [] ∧
    (List.replicate 15 (entry 0 4 1 0)).length = (15 : Fin 16).val ∧ (entry 1 4 1 0).timer = .running 200 ∧
    ({ run with now := 10000, scr := { run.scr with timer := .running 10000 } } : State).scr.timer = .running 10000 := by
  decide +kernel

/-- `busy` in HOLDUP at the expiry: one WRITING entry and two QUEUED, none of them fenced. -/
def expiring : State :=
  { inMode .holdup with
    now := 5000
    pq := [{ mergeEntry with fenced := true }, { entry 3 8 1 0 with isOpen := false, fenced := true }]
    ft := { fenceTableAtReset with rows := (pendingRow 1 1).set 3 (.pending { tag := 2, remaining := 1, faulted := false, discarded := false }) } }

theorem meets_HoldupExpiry : expiring.mdc.holdupTimer = .running 5000 ∧ 5000 ≤ expiring.now ∧
    1 = (expiring.pq.filter fun e => e.state == .queued).length ∧ FenceSound expiring ∧ expiring.fencedQueued 1 = 0 ∧
    1 ≤ expiring.fencedQueued 3 ∧ expiring.flushedQueued = 0 := by
  refine ⟨by decide +kernel, by decide +kernel, by decide +kernel, ⟨fun src => ?_, by decide +kernel, by decide +kernel⟩,
    by decide +kernel, by decide +kernel, by decide +kernel⟩
  match src with
  | 0 => show expiring.fencedOf 0 = 0; decide +kernel
  | 1 => show 1 = expiring.fencedOf 1 ∧ 1 ≤ expiring.fencedOf 1; decide +kernel
  | 2 => show expiring.fencedOf 2 = 0; decide +kernel
  | 3 => show 1 = expiring.fencedOf 3 ∧ 1 ≤ expiring.fencedOf 3; decide +kernel

theorem meets_PowerWarningByMode : (run.pins.pwarn = false ∧ run.mdc.mode = .run) ∧
    ((inMode .fill).pins.pwarn = false ∧ (inMode .fill).mdc.mode ≠ .run) ∧
    ((inMode .holdup).pins.pwarn = true ∧ (inMode .holdup).seq.cycle ≠ some .selfRefreshEntry) ∧
    (inMode .retain).pins.pwarn = true := by decide +kernel

/-- A commit that moves rank 1 and enables scrub: rank 0 is unchanged, rank 1 is not. -/
def moving : State :=
  { committing with cfg := { committing.cfg with staged := { committing.cfg.staged with
      ranks := committing.cfg.staged.ranks.set 1 { enable := true, size := .mib128, base := 8388608 }, scrubEnable := true } } }

theorem meets_CommitAppliedAtQuietPoint : moving.cfg.pending = true ∧ moving.pq = [] ∧ moving.rt = [] ∧ RowsFree moving ∧
    moving.seq.cycle = none ∧ UnchangedRank moving.cfg.active moving.cfg.staged 0 ∧
    ¬UnchangedRank moving.cfg.active moving.cfg.staged 1 ∧ ¬UnchangedRank moving.cfg.active moving.cfg.staged 3 ∧
    LowestEnabled moving.cfg.staged 0 ∧ moving.cfg.staged.scrubEnable = true ∧ moving.cfg.active.scrubEnable = false ∧
    commitCheck moving.cfg.staged = none ∧ run.cfg.pending = false := by decide +kernel

/-- `busy` is also QueueSound (meets_StepKeeps_sound), as ResetCutsCycle asks. -/
theorem meets_Resets : run.pins.rst = false ∧ CommandAwaited (commanding busy) 1 ∧ (7 : Byte).setWidth 4 = (7 : BitVec 4) ∧
    busy.seq.cycle = some (.mergeWrite 0 7) ∧ (∃ u, exec (Cycle.mergeWrite 0 7).completion busy = .next u) ∧
    ∃ t, exec (.externalReset straps2) busy = .next t :=
  ⟨by decide +kernel, by decide +kernel, by decide, by decide +kernel, ⟨_, rfl⟩, ⟨_, rfl⟩⟩

theorem meets_PortCommands : CommandAwaited (commanding run) 1 ∧ (0xF4 : Byte).setWidth 4 = (4 : BitVec 4) ∧
    busy.flg.records ≠ [] ∧ run.flg.records = [] ∧ run.ft.flush.active = false ∧ busy.ft.flush.active = true ∧
    (run.mdc.mode = .run ∧ commitCheck run.cfg.staged = none) ∧
    commitCheck { run.cfg.staged with holdupTime := 0 } = some .holdup ∧ committing.cfg.pending = true ∧
    (8 ≤ (8 : BitVec 4).toNat ∧ 8 ≤ (15 : BitVec 4).toNat) := by decide +kernel

theorem meets_RegisterTransferBytes : (run.pins.rst = false ∧ (0x5F : BitVec 7) = run.mnt.address) ∧
    (0x5E : BitVec 7) ≠ run.mnt.address ∧ (atRegister run 0x46 .writeHigh).mnt.transfer = .writeHigh ∧
    committing.cfg.pending = true := by decide +kernel

theorem meets_RegisterTransferBytes_addresses : (StagedAddress 0x30 ∧ StagedAddress 0x3E ∧ StagedAddress 0x46) ∧
    (ReadOnlyAddress 0x00 ∧ ReadOnlyAddress 0x86) ∧ (AbsentAddress 0x03 ∧ AbsentAddress 0x3F ∧ AbsentAddress 0xFF) :=
  ⟨⟨by decide, by decide, by decide⟩, ⟨by decide, by decide⟩, by decide, by decide, by decide⟩

/-- Every address falls under one of the clauses on a high byte, and none under two. -/
theorem test_addresses : (List.range 256).all (fun n =>
    let a := BitVec.ofNat 8 n
    [decide (a = 0x08), decide (a = 0x0A), decide (StagedAddress a), decide (ReadOnlyAddress a),
      decide (AbsentAddress a)].count true == 1) = true := by decide +kernel

theorem meets_StagedRegisterWrites : (atRegister run 0x30 (.writeLow 0)).mnt.transfer = .writeLow 0 ∧
    (∃ n : Rank, (0x30 : BitVec 8).toNat = 0x30 + 4 * n.val) ∧ (∃ n : Rank, (0x3E : BitVec 8).toNat = 0x32 + 4 * n.val) ∧
    committing.cfg.pending = true ∧ run.cfg.pending = false := by decide +kernel

theorem meets_RegisterReadBytes : (atRegister busy 0x0C .readHigh).mnt.transfer = .readHigh ∧
    (atRegister busy 0x0C .readHigh).mnt.pointer = 0x0C ∧ (atRegister busy 0x0D .readHigh).mnt.pointer ≠ 0x0C ∧
    (atRegister busy 0xFF (.readLow 3)).mnt.transfer = .readLow 3 := by decide +kernel

theorem meets_RegistersShowState : busy.pq.length ≤ 16 ∧ busy.rt.length ≤ 8 ∧ busy.ft.flush.remaining ≤ 16 ∧
    busy.flg.records.length ≤ 8 ∧ busy.mdc.record.discarded ≤ 16 ∧ ∀ n : Rank, busy.rfs[n].debt ≤ 8 := by decide +kernel

theorem meets_StoredBitFlips : ((during run (.scrub 0 7)).word 0 7 1).codeFlips.Pairwise (· < ·) := by decide +kernel

end Sys2Proof.Tests
end

/-! # Requests of unknown kind

How the request port answers (the gate of a WRITE by mode and commit state, and the answer as all that an event sends),
and from it the answer to a request whose kind code names no request (R8). -/

namespace Sys2Proof.Machine

/-! ## Answers and gates -/

/-- An event that does nothing more than begin sends nothing and changes nothing else. -/
theorem State.beginEvent_eq_sending (s : State) : s.beginEvent = s.sending [] [] := rfl

/-- An event that only answers a request sends that response alone and changes nothing else (R160). -/
theorem State.beginEvent_answer (s : State) (k : BitVec 3) (m : Request) (a : Answer) :
    s.beginEvent.answer k m a = s.sending [responseTo k m a] [] := rfl

/-- The gate of a WRITE depends on nothing that the start of an event changes. -/
@[simp] theorem State.beginEvent_writeGate (s : State) : s.beginEvent.writeGate = s.writeGate := rfl

@[simp] theorem State.gated_notTaken (s : State) (k : BitVec 3) (m : Request) (take : State → State) :
    s.gated .notTaken k m take = s := rfl

@[simp] theorem State.gated_answered (s : State) (a : Answer) (k : BitVec 3) (m : Request) (take : State → State) :
    s.gated (.answered a) k m take = s.answer k m a := rfl

@[simp] theorem State.gated_taken (s : State) (k : BitVec 3) (m : Request) (take : State → State) :
    s.gated .taken k m take = take s := rfl

theorem namesNoRequest_iff (kind : BitVec 3) : namesNoRequest kind = true ↔ 3 ≤ kind.toNat := by
  simp [namesNoRequest]

/-! ## The gate of a WRITE, row by row (Table 1-4) -/

section WriteGate

variable {s : State}

theorem State.writeGate_of_not_portReady (hp : s.pins.portReady = false) : s.writeGate = .notTaken := by
  simp [State.writeGate, hp]

theorem State.writeGate_of_committing (hp : s.pins.portReady = true) (hm : s.mdc.mode = .run) (hc : s.cfg.pending = true) :
    s.writeGate = .answered (.retry .committing) := by
  simp [State.writeGate, hp, hm, hc]

theorem State.writeGate_of_run (hp : s.pins.portReady = true) (hm : s.mdc.mode = .run) (hc : s.cfg.pending = false) :
    s.writeGate = .taken := by
  simp [State.writeGate, hp, hm, hc]

theorem State.writeGate_of_fill (hp : s.pins.portReady = true) (hm : s.mdc.mode = .fill) :
    s.writeGate = .answered (.retry .filling) := by
  simp [State.writeGate, hp, hm]

theorem State.writeGate_of_resume (hp : s.pins.portReady = true) (hm : s.mdc.mode = .resume) :
    s.writeGate = .answered (.retry .resuming) := by
  simp [State.writeGate, hp, hm]

theorem State.writeGate_of_halted (hp : s.pins.portReady = true) (hm : s.mdc.mode = .holdup ∨ s.mdc.mode = .retain) :
    s.writeGate = .answered (.refuse .halted) := by
  rcases hm with hm | hm <;> simp [State.writeGate, hp, hm]

end WriteGate

/-! ## A request of unknown kind, by the gate of a WRITE (R8) -/

/-- A request whose kind code names no request meets the gate of a WRITE; one that passes it is malformed. -/
theorem exec_unknownKindRequest {kind : BitVec 3} (hk : 3 ≤ kind.toNat) (m : Request) (s : State) :
    exec (.unknownKindRequest kind m) s =
      .next (s.beginEvent.gated s.writeGate kind m fun u => u.answer kind m (.refuse .malformed)) := by
  show execUnknownKindRequest kind m s = _
  simp only [execUnknownKindRequest, (namesNoRequest_iff kind).mpr hk, if_true, State.beginEvent_writeGate]

section ByGate

variable {kind : BitVec 3} {s : State}

theorem exec_unknownKindRequest_of_notTaken (hk : 3 ≤ kind.toNat) (m : Request) (hg : s.writeGate = .notTaken) :
    exec (.unknownKindRequest kind m) s = .next (s.sending [] []) := by
  rw [exec_unknownKindRequest hk, hg, State.gated_notTaken, State.beginEvent_eq_sending]

theorem exec_unknownKindRequest_of_answered (hk : 3 ≤ kind.toNat) (m : Request) {a : Answer}
    (hg : s.writeGate = .answered a) :
    exec (.unknownKindRequest kind m) s = .next (s.sending [responseTo kind m a] []) := by
  rw [exec_unknownKindRequest hk, hg, State.gated_answered, State.beginEvent_answer]

theorem exec_unknownKindRequest_of_taken (hk : 3 ≤ kind.toNat) (m : Request) (hg : s.writeGate = .taken) :
    exec (.unknownKindRequest kind m) s = .next (s.sending [responseTo kind m (.refuse .malformed)] []) := by
  rw [exec_unknownKindRequest hk, hg, State.gated_taken, State.beginEvent_answer]

end ByGate

/-- Settles O18: each row of Table 1-4 gives the gate of a WRITE, and the gate gives the answer. -/
theorem unknownKindAnsweredAsWrite : Obligations.UnknownKindAnsweredAsWrite := by
  intro kind m s hk
  refine ⟨fun hp => ?portNotReady, fun hp hm hc => ?committing, fun hp hm => ?fill, fun hp hm => ?resume,
    fun hp hm => ?halted, fun hp hm hc => ?run⟩
  case portNotReady => exact exec_unknownKindRequest_of_notTaken hk m (State.writeGate_of_not_portReady hp)
  case committing => exact exec_unknownKindRequest_of_answered hk m (State.writeGate_of_committing hp hm hc)
  case fill => exact exec_unknownKindRequest_of_answered hk m (State.writeGate_of_fill hp hm)
  case resume => exact exec_unknownKindRequest_of_answered hk m (State.writeGate_of_resume hp hm)
  case halted => exact exec_unknownKindRequest_of_answered hk m (State.writeGate_of_halted hp hm)
  case run => exact exec_unknownKindRequest_of_taken hk m (State.writeGate_of_run hp hm hc)

end Sys2Proof.Machine

/-! # The decode of a line

Under a set that passes the commit check the windows share no line, so a line that lies in a rank's window decodes to
that rank and to no other (R65). -/

namespace Sys2Proof.Machine

/-! ## Windows that share no line (R140, test 3) -/

theorem someOverlap_of_commitCheck_none {c : Settings} (hc : commitCheck c = none) : c.someOverlap = false := by
  rw [← Bool.not_eq_true]
  intro ho
  unfold commitCheck at hc
  rw [if_pos ho] at hc
  split at hc
  · cases hc
  split at hc
  · cases hc
  cases hc

theorem RankSettings.overlaps_of_holds {r t : RankSettings} {line : LineAddr} (hr : r.holds line = true)
    (ht : t.holds line = true) : r.overlaps t = true := by
  obtain ⟨hre, hrw⟩ := (RankSettings.holds_iff _ _).1 hr
  obtain ⟨hte, htw⟩ := (RankSettings.holds_iff _ _).1 ht
  exact (RankSettings.overlaps_iff r t).2 ⟨hre, hte, line.toNat, hrw, htw⟩

section NoOverlap

variable {c : Settings} {line : LineAddr} {n m : Rank}

/-- Where no two windows overlap, at most one rank holds a line. -/
theorem Settings.rank_unique_of_holds (hc : c.someOverlap = false) (hn : c.ranks[n].holds line = true)
    (hm : c.ranks[m].holds line = true) : n = m := by
  have apart : ∀ {i j : Rank}, c.ranks[i].holds line = true → c.ranks[j].holds line = true → ¬i < j := fun hi hj hij =>
    Bool.eq_false_iff.1 hc (c.someOverlap_iff.2 ⟨_, _, hij, RankSettings.overlaps_of_holds hi hj⟩)
  exact le_antisymm (not_lt.1 (apart hm hn)) (not_lt.1 (apart hn hm))

/-! ## The decode (R65) -/

/-- A line that decodes to no rank lies in no window. -/
theorem Settings.not_holds_of_rankOf_none (h : c.rankOf line = none) : ∀ n : Rank, ¬c.ranks[n].holds line = true := by
  rw [forall_rank]
  unfold Settings.rankOf at h
  split at h
  · cases h
  split at h
  · cases h
  split at h
  · cases h
  split at h
  · cases h
  exact ⟨‹_›, ‹_›, ‹_›, ‹_›⟩

/-- Where no two windows overlap, the order in which the ranks are tried does not matter. -/
theorem Settings.rankOf_eq_some_iff (hc : c.someOverlap = false) :
    c.rankOf line = some n ↔ c.ranks[n].holds line = true := by
  refine ⟨Settings.holds_of_rankOf, fun hn => ?_⟩
  cases hr : c.rankOf line with
  | none => exact absurd hn (Settings.not_holds_of_rankOf_none hr n)
  | some m => rw [Settings.rank_unique_of_holds hc hn (Settings.holds_of_rankOf hr)]

theorem Settings.rankLine_lt_lines (h : c.rankOf line = some n) :
    (c.rankLine n line).toNat < c.ranks[n].size.lines := by
  obtain ⟨-, hbase, hend⟩ := (RankSettings.holds_iff _ _).1 (Settings.holds_of_rankOf h)
  rw [Settings.rankLine_toNat h]
  omega

end NoOverlap

/-- Settles O15: the active set passed the commit check, so no two of its windows overlap, and the rank that the decode
finds first is the only one whose window holds the line. -/
theorem lineDecodesByWindow : Obligations.LineDecodesByWindow := by
  refine ⟨fun s line n hs => ⟨?decode, fun h => ⟨?distance, ?bound⟩⟩, ?sizes⟩
  case decode =>
    rw [Settings.rankOf_eq_some_iff (someOverlap_of_commitCheck_none hs.1), RankSettings.holds_iff]
  case distance => exact Settings.rankLine_toNat h
  case bound => exact Settings.rankLine_lt_lines h
  case sizes => exact ⟨rfl, rfl, rfl, rfl⟩

end Sys2Proof.Machine

/-! # The refresh tick

What a tick makes of a rank's debt and timer, what it leaves unchanged, and which refresh claim stands after it (R80). -/

namespace Sys2Proof.Machine

/-! ## A rank's debt and timer -/

/-- The refresh state of a rank after a tick, the next one placed at `next`: a debt of 8 rises no more. -/
def RankRefresh.ticked (r : RankRefresh) (next : Time) : RankRefresh :=
  { debt := if r.debt < 8 then r.debt + 1 else r.debt, timer := .running next }

namespace RankRefresh

variable {r : RankRefresh} (next : Time)

@[simp] theorem ticked_timer : (r.ticked next).timer = .running next := rfl

theorem ticked_debt_of_lt (h : r.debt < 8) : (r.ticked next).debt = r.debt + 1 := if_pos h

theorem ticked_debt_of_ge (h : 8 ≤ r.debt) : (r.ticked next).debt = r.debt := if_neg (Nat.not_lt.2 h)

/-- After a tick a REFRESH is owed: a debt that did not rise was 8 or more. -/
theorem one_le_ticked_debt : 1 ≤ (r.ticked next).debt := by
  rcases Nat.lt_or_ge r.debt 8 with h | h
  · rw [ticked_debt_of_lt next h]
    omega
  · rw [ticked_debt_of_ge next h]
    omega

end RankRefresh

/-! ## The ranks and the log -/

/-- The ranks' refresh states after a tick of rank `n` that fell at `d`. -/
def State.tickedRanks (s : State) (n : Rank) (d : Time) : Vector RankRefresh 4 :=
  s.rfs.set n (s.rfs[n].ticked (d + s.cfg.active.refreshTime))

section Tick

variable {s : State} {n : Rank} {d : Time}

@[simp] theorem State.tickedRanks_self : (s.tickedRanks n d)[n] = s.rfs[n].ticked (d + s.cfg.active.refreshTime) :=
  Vector.getElem_set_self _

theorem State.tickedRanks_of_ne {m : Rank} (h : m ≠ n) : (s.tickedRanks n d)[m] = s.rfs[m] :=
  Vector.getElem_set_ne _ _ (Fin.val_ne_of_ne h.symm)

/-- A tick changes the ranks, and the log where the debt it meets is 8. -/
theorem State.tick_eq : s.tick n d =
    { s with
      rfs := s.tickedRanks n d
      flg := if s.rfs[n].debt < 8 then s.flg else s.flg.take (.refreshOverrun n) } := by
  unfold State.tick State.tickedRanks RankRefresh.ticked
  split
  case isTrue => rfl
  case isFalse => rfl

theorem State.tick_of_lt (h : s.rfs[n].debt < 8) : s.tick n d = { s with rfs := s.tickedRanks n d } := by
  rw [State.tick_eq, if_pos h]

theorem State.tick_of_ge (h : 8 ≤ s.rfs[n].debt) :
    s.tick n d = { s with rfs := s.tickedRanks n d, flg := s.flg.take (.refreshOverrun n) } := by
  rw [State.tick_eq, if_neg (Nat.not_lt.2 h)]

@[simp] theorem State.tick_rfs : (s.tick n d).rfs = s.tickedRanks n d := by rw [State.tick_eq]

@[simp] theorem State.tick_seq : (s.tick n d).seq = s.seq := by rw [State.tick_eq]

@[simp] theorem State.tick_cfg : (s.tick n d).cfg = s.cfg := by rw [State.tick_eq]

/-! ## The claim (R82) -/

theorem State.refreshClaim_iff : s.refreshClaim n = true ↔ 1 ≤ s.rfs[n].debt ∧ s.seq.cycle ≠ some (.refresh n) := by
  simp [State.refreshClaim]

theorem State.urgent_iff : s.urgent n = true ↔ s.cfg.active.urgentLevel.toNat ≤ s.rfs[n].debt := by
  simp [State.urgent]

theorem State.tick_refreshClaim (h : s.seq.cycle ≠ some (.refresh n)) : (s.tick n d).refreshClaim n = true := by
  rw [State.refreshClaim_iff, State.tick_rfs, State.tick_seq, State.tickedRanks_self]
  exact ⟨RankRefresh.one_le_ticked_debt _, h⟩

theorem State.tick_urgent_iff :
    (s.tick n d).urgent n = true ↔ s.cfg.active.urgentLevel.toNat ≤ (s.tick n d).rfs[n].debt := by
  rw [State.urgent_iff, State.tick_cfg]

/-! ## The event -/

/-- A REFRESH_TICK whose time has come is a tick that fell at that time, in whatever mode and cycle. -/
theorem exec_refreshTick_of_due (ht : s.rfs[n].timer = .running d) (hd : d ≤ s.now) :
    exec (.refreshTick n) s = .next (s.beginEvent.tick n d) := by
  show execRefreshTick n s = _
  simp only [execRefreshTick, State.beginEvent_rfs, State.beginEvent_now, ht, hd, if_true]

end Tick

/-- Settles O39: the tick's two outcomes, by the debt it meets, and the claim that the debt after it presents. -/
theorem refreshTickRaisesDebt : Obligations.RefreshTickRaisesDebt := by
  intro s n d ht hd
  refine ⟨s.beginEvent.tick n d, s.tickedRanks n d, exec_refreshTick_of_due ht hd, fun hlt => ⟨?below, ?risen⟩,
    fun hge => ⟨?overrun, ?held⟩, ?next, fun m hm => State.tickedRanks_of_ne hm, fun hc => ?claim, ?urgent⟩
  case below => exact State.tick_of_lt hlt
  case risen => rw [State.tickedRanks_self, RankRefresh.ticked_debt_of_lt _ hlt]
  case overrun => exact State.tick_of_ge hge
  case held => rw [State.tickedRanks_self, RankRefresh.ticked_debt_of_ge _ hge]
  case next => rw [State.tickedRanks_self, RankRefresh.ticked_timer]; rfl
  case claim => exact State.tick_refreshClaim hc
  case urgent => exact State.tick_urgent_iff

end Sys2Proof.Machine

/-! # Commands of the fault log and the corrected counts

How a command that the maintenance port takes completes (R162, R164), and from it the effect and the result of POP_LOG,
CLEAR_OVERFLOW and CLEAR_CORRECTED (R99, R116, R117). -/

namespace Sys2Proof.Machine

/-! ## The completion of a command -/

/-- Placing the result and completing the register write is all that `commandDone` says, where the pointer is at the
command register and nothing has been sent before. -/
theorem State.finish_setResult_eq_commandDone {t : State} (code : BitVec 4) (r : ResultCode)
    (hp : t.mnt.pointer = commandAddress) (hr : t.rsp = []) (hs : t.sda = []) :
    (t.setResult code r).finishRegisterWrite = t.commandDone code r := by
  have hnext : t.mnt.pointer + 1 = 0x09 := by rw [hp]; decide
  unfold State.finishRegisterWrite State.bumpPointer State.setTransfer State.setResult State.signal State.commandDone
    State.sending
  simp only [hnext, hr, hs, List.nil_append]

/-- An awaited command completes on what its own effect makes of the state, if that effect sends nothing and leaves the
maintenance port alone. -/
theorem State.command_eq_commandDone {s : State} {hi lo : Byte} {code : BitVec 4}
    {run : Byte → State → State × ResultCode} (h : CommandAwaited s hi) (hc : commandCode lo = code)
    (hm : (run hi s.beginEvent).1.mnt = s.mnt) (hr : (run hi s.beginEvent).1.rsp = [])
    (hs : (run hi s.beginEvent).1.sda = []) :
    s.beginEvent.command code lo run = (run hi s.beginEvent).1.commandDone code (run hi s.beginEvent).2 := by
  obtain ⟨htransfer, hpointer⟩ := h
  rw [State.command_taken s.beginEvent code lo run hi htransfer hpointer hc]
  exact State.finish_setResult_eq_commandDone code _ (by rw [hm]; exact hpointer) hr hs

/-! ## The removal of the oldest record (R115, R116) -/

theorem FaultLog.pop_of_nil {f : FaultLog} (h : f.records = []) : f.pop = (f, .empty) := by
  simp only [FaultLog.pop, h]

theorem FaultLog.pop_of_cons {f : FaultLog} {x : FaultRecord} {rest : List FaultRecord} (h : f.records = x :: rest) :
    f.pop = ({ f with records := rest, line := f.line && someEnabled f.mask rest }, .done) := by
  simp only [FaultLog.pop, h]

/-! ## The rank of a CLEAR_CORRECTED (R99) -/

theorem rankArgument_val (hi : Byte) : (rankArgument hi).val = hi.toNat % 4 :=
  BitVec.toNat_setWidth 2 hi

/-- Setting one rank's count leaves the other ranks' counts as they were. -/
theorem getElem_set_rankArgument (v : Vector (BitVec 16) 4) (hi : Byte) (n : Rank) :
    (v.set (rankArgument hi) 0)[n] = if n.val = hi.toNat % 4 then 0 else v[n] := by
  rw [Fin.getElem_fin, Fin.getElem_fin, Vector.getElem_set, rankArgument_val]
  exact if_congr eq_comm rfl rfl

/-! ## The three commands, when the port takes them

None of their effects sends anything or touches the maintenance port, so `State.command_eq_commandDone` says how each
completes, in whatever mode. -/

section Awaited

variable {s : State} {hi lo : Byte}

theorem exec_clearCorrected_of_awaited (h : CommandAwaited s hi) (hc : commandCode lo = 4) :
    exec (.clearCorrected lo) s = .next { s.commandDone 4 .done with chk := s.chk.set (rankArgument hi) 0 } :=
  congrArg Host.Outcome.next (State.command_eq_commandDone h hc rfl rfl rfl)

theorem exec_popLog_of_awaited (h : CommandAwaited s hi) (hc : commandCode lo = 2) :
    exec (.popLog lo) s = .next { s.commandDone 2 s.flg.pop.2 with flg := s.flg.pop.1 } :=
  congrArg Host.Outcome.next (State.command_eq_commandDone h hc rfl rfl rfl)

theorem exec_clearOverflow_of_awaited (h : CommandAwaited s hi) (hc : commandCode lo = 3) :
    exec (.clearOverflow lo) s = .next { s.commandDone 3 .done with flg := { s.flg with overflow := false } } :=
  congrArg Host.Outcome.next (State.command_eq_commandDone h hc rfl rfl rfl)

end Awaited

/-- Settles O54: each command completes on its own effect, which for POP_LOG is by whether the log holds a record. -/
theorem countAndLogCommands : Obligations.CountAndLogCommands := by
  intro s hi lo h
  refine ⟨fun hc => ⟨s.chk.set (rankArgument hi) 0, ?cleared, fun n => ?counts⟩,
    fun hc => ⟨fun hnil => ?empty, fun x rest hcons => ?popped⟩, fun hc => ?overflow⟩
  case cleared => exact exec_clearCorrected_of_awaited h hc
  case counts => exact getElem_set_rankArgument s.chk hi n
  case empty => rw [exec_popLog_of_awaited h hc, FaultLog.pop_of_nil hnil]; rfl
  case popped => rw [exec_popLog_of_awaited h hc, FaultLog.pop_of_cons hcons]; rfl
  case overflow => exact exec_clearOverflow_of_awaited h hc

end Sys2Proof.Machine

/-! # What a step can do

Every step is one effect of the device, or none, together with changes of the pending queue, the outputs and the
maintenance port, of which the sound states say nothing but that a device held in reset leaves its port idle. A predicate
that every effect keeps, and that such changes keep, is kept by every step. -/

namespace Sys2Proof.Machine

/-! ## Changes outside the blocks -/

/-- `t` differs from `s` at most in the pending commands, the maintenance port and the outputs, and the port of a device
held in reset stays idle. -/
structure SameBlocks (s t : State) : Prop where
  eq : t = { s with pending := t.pending, mnt := t.mnt, rsp := t.rsp, sda := t.sda }
  idle : s.pins.rst = true → s.mnt.transfer = .idle → t.mnt.transfer = .idle

namespace SameBlocks

variable {s t : State}

theorem refl (s : State) : SameBlocks s s := ⟨rfl, fun _ h => h⟩

theorem answer (s : State) (k : BitVec 3) (m : Request) (a : Answer) : SameBlocks s (s.answer k m a) :=
  ⟨rfl, fun _ h => h⟩

theorem beginEvent (s : State) (rest : List Instr) : SameBlocks s { s with pending := rest }.beginEvent :=
  ⟨rfl, fun _ h => h⟩

/-- A change of the port that is made in a transfer in progress. -/
theorem of_busy_port (h : s.mnt.transfer ≠ .idle) (he : t = { s with mnt := t.mnt, sda := t.sda }) : SameBlocks s t :=
  ⟨by rw [he], fun _ hi => absurd hi h⟩

theorem pq (h : SameBlocks s t) : t.pq = s.pq := by rw [h.eq]
theorem rt (h : SameBlocks s t) : t.rt = s.rt := by rw [h.eq]
theorem ft (h : SameBlocks s t) : t.ft = s.ft := by rw [h.eq]
theorem seq (h : SameBlocks s t) : t.seq = s.seq := by rw [h.eq]
theorem rfs (h : SameBlocks s t) : t.rfs = s.rfs := by rw [h.eq]
theorem chk (h : SameBlocks s t) : t.chk = s.chk := by rw [h.eq]
theorem scr (h : SameBlocks s t) : t.scr = s.scr := by rw [h.eq]
theorem flg (h : SameBlocks s t) : t.flg = s.flg := by rw [h.eq]
theorem mdc (h : SameBlocks s t) : t.mdc = s.mdc := by rw [h.eq]
theorem cfg (h : SameBlocks s t) : t.cfg = s.cfg := by rw [h.eq]
theorem pins (h : SameBlocks s t) : t.pins = s.pins := by rw [h.eq]
theorem array (h : SameBlocks s t) : t.array = s.array := by rw [h.eq]
theorem now (h : SameBlocks s t) : t.now = s.now := by rw [h.eq]

end SameBlocks

/-! ## The effects -/

/-- A claim of rows 2 to 8 of Table 4-3 is granted: the SEQ is idle on an ACTIVE array, and INIT is over (R60 to R62). -/
structure WorkGranted (s : State) : Prop where
  idle : s.seq.cycle = none
  rst : s.pins.rst = false
  condition : s.seq.condition = .active
  mode : s.mdc.mode ≠ .init

/-- The cycle that drains an entry (R16). -/
def Entry.drainCycle (e : Entry) (r : Rank) (l : RankLine) : Cycle :=
  if hasPartialWord e.mask then .mergeWrite r l else .plainWrite r l

/-- The effects of the commands on the blocks, each with the conditions under which a command has it. -/
inductive Effect (s : State) : State → Prop where
  | nothing : Effect s s
  | passTime (hdue : s.someTimerDue = false) : Effect s { s with now := s.now + 1 }
  | coalesce (m : Request) (hmode : s.mdc.mode = .run) (hmask : m.mask ≠ 0) : Effect s (s.coalesce m)
  | append (m : Request) (hmode : s.mdc.mode = .run) (hmask : m.mask ≠ 0) (hline : s.cfg.active.mapped m.line = true)
      (hroom : s.pq.length < 16) : Effect s (s.append m)
  | addRecord (m : Request) (hmode : s.mdc.mode.works = true) (hpair : ¬PairHeld s m.source m.tag)
      (hline : s.cfg.active.mapped m.line = true) (hroom : s.rt.length < 8) : Effect s (s.addRecord m)
  | raiseFence (m : Request) (hmode : s.mdc.mode.works = true) (hpair : ¬PairHeld s m.source m.tag)
      (hrow : s.ft.rows[m.source] = .free) (hsome : s.entriesOf m.source ≠ 0) : Effect s (s.raiseFence m)
  | grantPowerUp (hidle : s.seq.cycle = none) (hrst : s.pins.rst = false) (hmode : s.mdc.mode = .init)
      (hcond : s.seq.condition ≠ .selfRefresh) : Effect s (s.startCycle .powerUp)
  | grantEntry (hidle : s.seq.cycle = none) (hmode : s.mdc.mode = .holdup) (hpq : s.pq = []) (hrt : s.rt = [])
      (hrows : RowsFree s) : Effect s ((s.setCondition .selfRefresh).startCycle .selfRefreshEntry)
  | grantExit (hidle : s.seq.cycle = none) (hrst : s.pins.rst = false) (hmode : s.mdc.mode = .init ∨ s.mdc.mode = .resume) :
      Effect s (s.startCycle .selfRefreshExit)
  | grantRefresh (n : Rank) (hwork : WorkGranted s) (hdebt : 1 ≤ s.rfs[n].debt) : Effect s (s.startCycle (.refresh n))
  | grantDrain (e : Entry) (rest : List Entry) (r : Rank) (hwork : WorkGranted s) (hpq : s.pq = e :: rest)
      (hrank : s.cfg.active.rankOf e.line = some r) :
      Effect s ({ s with pq := e.granted :: rest }.startCycle (e.drainCycle r (s.cfg.active.rankLine r e.line)))
  | grantRead (older younger : List ReadRecord) (x : ReadRecord) (r : Rank) (hwork : WorkGranted s)
      (hrt : s.rt = older ++ x :: younger) (holder : ∀ y ∈ older, y.state = .reading) (hx : x.state = .waiting)
      (hrank : s.cfg.active.rankOf x.line = some r) :
      Effect s ({ s with rt := older ++ { x with state := .reading } :: younger }.startCycle
        (.lineRead r (s.cfg.active.rankLine r x.line)))
  | grantFill (hwork : WorkGranted s) (hmode : s.mdc.mode = .fill) :
      Effect s (s.startCycle (.fill s.mdc.fillRank s.mdc.fillLine))
  | grantScrub (hwork : WorkGranted s) (hmode : s.mdc.mode = .run) :
      Effect s ({ s with scr := { s.scr with due := false } }.startCycle (.scrub s.scr.rank s.scr.line))
  | depart (e : Entry) (rest : List Entry) (r : Rank) (l : RankLine) (hhead : WritingHead s e rest r l) :
      Effect s (s.depart e rest r l)
  | finishRead (x : ReadRecord) (r : Rank) (l : RankLine) (hcycle : s.seq.cycle = some (.lineRead r l)) :
      Effect s (s.finishRead x r l)
  | finishRefresh (n : Rank) (hcycle : s.seq.cycle = some (.refresh n)) : Effect s (s.payDebt n).endCycle
  | finishScrub (r : Rank) (l : RankLine) (hcycle : s.seq.cycle = some (.scrub r l)) : Effect s (s.finishScrub r l)
  | finishFill (r : Rank) (l : RankLine) (hcycle : s.seq.cycle = some (.fill r l)) :
      Effect s s.finishWords.endCycle.advanceFill
  | finishPowerUp (hcycle : s.seq.cycle = some .powerUp) :
      Effect s (s.endCycle.setCondition .active).afterModeOperation
  | finishEntry (hcycle : s.seq.cycle = some .selfRefreshEntry) : Effect s s.finishEntry
  | finishExit (hcycle : s.seq.cycle = some .selfRefreshExit) : Effect s (s.endCycle.setCondition .active).finishExit
  | ripen (i : Fin 16) : Effect s { s with pq := s.pq.modify i.val fun e => e.ripened s.now }
  | tick (n : Rank) (d : Time) (htimer : s.rfs[n].timer = .running d) (hdue : d ≤ s.now) : Effect s (s.tick n d)
  | scrubExpiry (d : Time) (htimer : s.scr.timer = .running d) (hdue : d ≤ s.now) :
      Effect s { s with scr := { s.scr with due := true, timer := .running (d + s.cfg.active.scrubTime) } }
  | holdupExpiry (hdue : s.mdc.holdupTimer.due s.now = true) : Effect s s.expireHoldup
  | warn (hmode : s.mdc.mode ≠ .run) : Effect s (s.setPwarn true)
  | warnInRun (hmode : s.mdc.mode = .run) : Effect s (s.setPwarn true).enterHoldup
  | unwarn (hmode : s.mdc.mode ≠ .retain) (hentry : s.mdc.mode = .holdup → s.seq.cycle = some .selfRefreshEntry) :
      Effect s (s.setPwarn false)
  | returnToRun (hmode : s.mdc.mode = .holdup) (hentry : s.seq.cycle ≠ some .selfRefreshEntry) :
      Effect s (s.setPwarn false).returnToRun
  | resume (hmode : s.mdc.mode = .retain) : Effect s ((s.setPwarn false).setMode .resume)
  | applyCommit (hpending : s.cfg.pending = true) (hquiet : s.quiet = true) : Effect s s.applyCommit
  | powerOn (p : PowerOnPins) : Effect s { s.resetBlocks p.straps powerOnRecord with
      seq := { cycle := none, condition := .cold }
      pins := { pwarn := p.pwarnAsserted, rst := p.rstAsserted, portReady := false }
      array := []
      powerOns := s.powerOns + 1 }
  | externalReset (st : Straps) : Effect s ((s.warmReset .external st).setRst true)
  | maintenanceReset (st : Straps) : Effect s (s.warmReset .maintenance st)
  | releaseReset : Effect s (s.setRst false)
  | flush : Effect s s.takeFlush.1
  | popLog : Effect s { s with flg := s.flg.pop.1 }
  | clearOverflow : Effect s { s with flg := { s.flg with overflow := false } }
  | clearCorrected (n : Rank) : Effect s { s with chk := s.chk.set n 0 }
  | commit : Effect s s.takeCommit.1
  | abort : Effect s s.takeAbort.1
  | setMask (m : BitVec 6) : Effect s { s with flg := s.flg.setMask m }
  | stage (r : StagedRegister) (v : BitVec 16) (hpending : s.cfg.pending = false) :
      Effect s { s with cfg := { s.cfg with staged := r.write v s.cfg.staged } }
  | flip (r : Rank) (l : RankLine) (w : Fin 4) (b : StoredBit) :
      Effect s { s with array := Memory.store s.array (cellAddr r l w) ((s.word r l w).flip b) }

/-- `t` follows `s` by one effect, up to changes outside the blocks. -/
def Follows (s t : State) : Prop := ∃ u, Effect s u ∧ SameBlocks u t

theorem Effect.follows {s t : State} (h : Effect s t) : Follows s t := ⟨t, h, .refl t⟩

theorem SameBlocks.follows {s t : State} (h : SameBlocks s t) : Follows s t := ⟨s, .nothing, h⟩

theorem Effect.follows_answer {s t : State} (h : Effect s t) (k : BitVec 3) (m : Request) (a : Answer) :
    Follows s (t.answer k m a) := ⟨t, h, .answer t k m a⟩

/-- An outcome is a next state that follows `s`. -/
def Next (s : State) (o : Out) : Prop := ∃ t, o = .next t ∧ Follows s t

theorem Follows.next {s t : State} (h : Follows s t) : Next s (.next t) := ⟨t, rfl, h⟩

/-! ## Requests -/

theorem State.writeGate_taken {s : State} (h : s.writeGate = .taken) : s.mdc.mode = .run := by
  revert h
  unfold State.writeGate
  cases s.pins.portReady <;> cases s.mdc.mode <;> simp

theorem State.readGate_taken {s : State} (h : s.readGate = .taken) : s.mdc.mode.works = true := by
  revert h
  unfold State.readGate
  cases s.pins.portReady <;> cases s.mdc.mode <;> simp [Mode.works]

theorem State.fenceGate_taken {s : State} (h : s.fenceGate = .taken) : s.mdc.mode.works = true := by
  revert h
  unfold State.fenceGate
  cases s.pins.portReady <;> cases s.mdc.mode <;> simp [Mode.works]

/-- A request answered by its gate, or not taken, has no effect on the blocks. -/
theorem follows_gated {s : State} {g : Gate} {k : BitVec 3} {m : Request} {take : State → State}
    (htake : g = .taken → Follows s (take s)) : Follows s (s.gated g k m take) := by
  rcases s.gated_cases g k m take with ⟨-, h⟩ | ⟨a, -, h⟩ | ⟨hg, h⟩
  · rw [h]; exact (SameBlocks.refl s).follows
  · rw [h]; exact (SameBlocks.answer s k m a).follows
  · rw [h]; exact htake hg

theorem follows_takeWrite {s : State} (m : Request) (hmode : s.mdc.mode = .run) : Follows s (s.takeWrite m) := by
  unfold State.takeWrite
  split
  · exact (SameBlocks.answer ..).follows
  rename_i hmask
  split
  · exact (SameBlocks.answer ..).follows
  rename_i hline
  split
  · exact (Effect.coalesce m hmode hmask).follows_answer ..
  split
  · exact (Effect.append m hmode hmask (by simpa using hline) (by assumption)).follows_answer ..
  · exact (SameBlocks.answer ..).follows

theorem follows_takeRead {s : State} (m : Request) (hmode : s.mdc.mode.works = true) : Follows s (s.takeRead m) := by
  unfold State.takeRead
  split
  · exact (SameBlocks.answer ..).follows
  rename_i hpair
  rw [s.pairHeld_iff] at hpair
  split
  · exact (SameBlocks.answer ..).follows
  rename_i hline
  split
  · exact (SameBlocks.answer ..).follows
  split
  · exact (Effect.addRecord m hmode hpair (by simpa using hline) (by assumption)).follows
  · exact (SameBlocks.answer ..).follows

theorem follows_takeFence {s : State} (m : Request) (hmode : s.mdc.mode.works = true) : Follows s (s.takeFence m) := by
  unfold State.takeFence
  split
  · exact (SameBlocks.answer ..).follows
  rename_i hpair
  rw [s.pairHeld_iff] at hpair
  split
  · exact (SameBlocks.answer ..).follows
  rename_i hrow
  rw [Bool.not_eq_true, FenceRow.isPending_false_iff] at hrow
  split
  · exact (SameBlocks.answer ..).follows
  · exact (Effect.raiseFence m hmode hpair hrow (by assumption)).follows

/-! ## GRANT and the completions -/

/-- The grant of the oldest WAITING record makes it READING (R33). -/
theorem markReading_append {older younger : List ReadRecord} {x : ReadRecord} (ho : ∀ y ∈ older, y.state = .reading)
    (hx : x.state = .waiting) :
    markReading (older ++ x :: younger) = older ++ { x with state := .reading } :: younger := by
  induction older with
  | nil => simp [markReading, ReadRecord.isWaiting, hx]
  | cons y older ih =>
    have hy : y.isWaiting = false := by simp [ReadRecord.isWaiting, ho y (by simp)]
    simp only [List.cons_append, markReading, hy, Bool.false_eq_true, if_false]
    rw [ih fun z hz => ho z (by simp [hz])]

/-- The oldest WAITING record stands after READING records alone. -/
theorem State.oldestWaiting_some {s : State} {x : ReadRecord} (h : s.oldestWaiting = some x) :
    x.state = .waiting ∧ ∃ older younger, s.rt = older ++ x :: younger ∧ ∀ y ∈ older, y.state = .reading := by
  obtain ⟨hx, older, younger, hrt, ho⟩ := List.find?_eq_some_iff_append.1 h
  refine ⟨by simpa using hx, older, younger, hrt, fun y hy => ?_⟩
  have := ho y hy
  cases hs : y.state <;> simp_all

/-- The claim that the MDC presents and the array condition admits is one of the three mode operations. -/
theorem follows_grantMode {s : State} {c : Claim} (hidle : s.seq.cycle = none) (hrst : s.pins.rst = false)
    (h : s.grantableMode = some c) : Follows s (s.grantClaim c) := by
  have hi : s.idle = true := by simp [State.idle, hidle]
  unfold State.grantableMode State.modeClaim at h
  rw [hrst, hi] at h
  cases hm : s.mdc.mode with
  | init =>
    cases hc : s.seq.condition <;> simp [hm, hc] at h <;> subst h
    · exact (Effect.grantPowerUp hidle hrst hm (by simp [hc])).follows
    · exact (Effect.grantPowerUp hidle hrst hm (by simp [hc])).follows
    · exact (Effect.grantExit hidle hrst (.inl hm)).follows
  | holdup =>
    by_cases hr : s.readyForEntry = true
    · cases hc : s.seq.condition <;> simp [hm, hc, hr] at h
      subst h
      simp only [State.readyForEntry, Bool.and_eq_true, List.isEmpty_iff, s.rowsFree_iff] at hr
      obtain ⟨⟨⟨hpq, hrt⟩, hrows⟩, -⟩ := hr
      exact (Effect.grantEntry hidle hm hpq hrt hrows).follows
    · cases hc : s.seq.condition <;> simp [hm, hc, hr] at h
  | resume =>
    cases hc : s.seq.condition <;> simp [hm, hc] at h
    subst h
    exact (Effect.grantExit hidle hrst (.inr hm)).follows
  | fill | run | retain => cases hc : s.seq.condition <;> simp [hm, hc] at h

theorem State.refreshIn_debt {s : State} {p : Rank → Bool} {n : Rank} (h : s.refreshIn p = some n) :
    1 ≤ s.rfs[n].debt := by
  have claimed : ∀ m, (if (s.refreshClaim m && p m) = true then some m else none) = some n → 1 ≤ s.rfs[n].debt := by
    intro m hm
    split at hm
    · rename_i hc
      cases hm
      rw [Bool.and_eq_true, State.refreshClaim_iff] at hc
      exact hc.1.1
    · cases hm
  unfold State.refreshIn at h
  rcases State.higherDebt_mem h with h | h <;> rcases State.higherDebt_mem h with h | h <;> exact claimed _ h

theorem follows_grantDrain {s : State} (hw : WorkGranted s) : Follows s s.grantDrain := by
  unfold State.grantDrain
  split
  · exact (SameBlocks.refl s).follows
  rename_i e rest hpq
  split
  · exact (SameBlocks.refl s).follows
  · rename_i r hr
    exact (Effect.grantDrain e rest r hw hpq hr).follows

theorem follows_grantRead {s : State} (hw : WorkGranted s) : Follows s s.grantRead := by
  unfold State.grantRead
  split
  · exact (SameBlocks.refl s).follows
  rename_i x hx
  obtain ⟨hwait, older, younger, hrt, ho⟩ := State.oldestWaiting_some hx
  split
  · exact (SameBlocks.refl s).follows
  · rename_i r hr
    rw [hrt, markReading_append ho hwait]
    exact (Effect.grantRead older younger x r hw hrt ho hwait hr).follows

/-- A claim of rows 2 to 8, granted, is one of the five kinds of work. -/
theorem follows_grantWork {s : State} {c : Claim} (hw : WorkGranted s) (h : s.grantableWork = some c) :
    Follows s (s.grantClaim c) := by
  unfold State.grantableWork at h
  split at h
  · rename_i n hn
    cases h
    exact (Effect.grantRefresh n hw (State.refreshIn_debt hn)).follows
  split at h
  · cases h
    exact follows_grantDrain hw
  split at h
  · cases h
    exact follows_grantRead hw
  split at h
  · cases h
    exact follows_grantDrain hw
  split at h
  · rename_i hf
    cases h
    rw [State.fillClaim, Bool.and_eq_true, beq_iff_eq] at hf
    exact (Effect.grantFill hw hf.1).follows
  split at h
  · rename_i n hn
    cases h
    exact (Effect.grantRefresh n hw (State.refreshIn_debt hn)).follows
  split at h
  · rename_i hs
    cases h
    rw [State.scrubClaim, Bool.and_eq_true, beq_iff_eq] at hs
    exact (Effect.grantScrub hw hs.2).follows
  · cases h

theorem follows_grantClaim {s : State} {c : Claim} (h : s.nextClaim = some c) : Follows s (s.grantClaim c) := by
  unfold State.nextClaim at h
  split at h
  · cases h
  rename_i hgate
  simp only [Bool.or_eq_true, Bool.not_eq_true', not_or, Bool.not_eq_false, Bool.not_eq_true] at hgate
  obtain ⟨hidle, hrst⟩ := hgate
  have hcycle : s.seq.cycle = none := by simpa [State.idle] using hidle
  split at h
  · rename_i m hm
    cases h
    exact follows_grantMode hcycle hrst hm
  rename_i hm
  split at h
  · rename_i hc
    refine follows_grantWork ⟨hcycle, hrst, hc, fun hinit => ?_⟩ h
    simp [State.grantableMode, State.modeClaim, hinit, hrst, hidle, hc] at hm
  · cases h

theorem next_execGrant (s : State) : Next s.beginEvent (execGrant s) := by
  unfold execGrant
  dsimp only
  cases h : s.beginEvent.nextClaim with
  | none => exact (SameBlocks.refl _).follows.next
  | some c => exact (follows_grantClaim h).next

theorem next_execDeparture (s : State) : Next s.beginEvent (execDeparture s) := by
  unfold execDeparture
  have departs : ∀ e rest r l, s.beginEvent.pq = e :: rest →
      (s.beginEvent.seq.cycle = some (.plainWrite r l) ∨ s.beginEvent.seq.cycle = some (.mergeWrite r l)) →
      Follows s.beginEvent (if e.isWriting then s.beginEvent.depart e rest r l else s.beginEvent) := by
    intro e rest r l hpq hc
    split
    · rename_i he
      exact (Effect.depart e rest r l ⟨hpq, by simpa [Entry.isWriting] using he, hc⟩).follows
    · exact (SameBlocks.refl _).follows
  dsimp only
  split
  · rename_i hc hpq
    exact (departs _ _ _ _ hpq (.inl hc)).next
  · rename_i hc hpq
    exact (departs _ _ _ _ hpq (.inr hc)).next
  · exact (SameBlocks.refl _).follows.next

theorem next_execLineReadCompletion (s : State) : Next s.beginEvent (execLineReadCompletion s) := by
  unfold execLineReadCompletion
  dsimp only
  split
  · rename_i hc _
    exact (Effect.finishRead _ _ _ hc).follows.next
  · exact (SameBlocks.refl _).follows.next

theorem next_execRefreshCompletion (s : State) : Next s.beginEvent (execRefreshCompletion s) := by
  unfold execRefreshCompletion
  dsimp only
  split
  · rename_i hc
    exact (Effect.finishRefresh _ hc).follows.next
  · exact (SameBlocks.refl _).follows.next

theorem next_execScrubCompletion (s : State) : Next s.beginEvent (execScrubCompletion s) := by
  unfold execScrubCompletion
  dsimp only
  split
  · rename_i hc
    exact (Effect.finishScrub _ _ hc).follows.next
  · exact (SameBlocks.refl _).follows.next

theorem next_execFillCompletion (s : State) : Next s.beginEvent (execFillCompletion s) := by
  unfold execFillCompletion
  dsimp only
  split
  · rename_i hc
    exact (Effect.finishFill _ _ hc).follows.next
  · exact (SameBlocks.refl _).follows.next

theorem next_execPowerUpCompletion (s : State) : Next s.beginEvent (execPowerUpCompletion s) := by
  unfold execPowerUpCompletion
  dsimp only
  split
  · rename_i hc
    exact (Effect.finishPowerUp hc).follows.next
  · exact (SameBlocks.refl _).follows.next

theorem next_execSelfRefreshEntryCompletion (s : State) : Next s.beginEvent (execSelfRefreshEntryCompletion s) := by
  unfold execSelfRefreshEntryCompletion
  dsimp only
  split
  · rename_i hc
    exact (Effect.finishEntry hc).follows.next
  · exact (SameBlocks.refl _).follows.next

theorem next_execSelfRefreshExitCompletion (s : State) : Next s.beginEvent (execSelfRefreshExitCompletion s) := by
  unfold execSelfRefreshExitCompletion
  dsimp only
  split
  · rename_i hc
    exact (Effect.finishExit hc).follows.next
  · exact (SameBlocks.refl _).follows.next

/-! ## Timers, pins and the quiet point -/

theorem next_execRefreshTick (n : Rank) (s : State) : Next s.beginEvent (execRefreshTick n s) := by
  unfold execRefreshTick
  dsimp only
  split
  · exact (SameBlocks.refl _).follows.next
  · rename_i d ht
    split
    · exact (Effect.tick n d ht (by assumption)).follows.next
    · exact (SameBlocks.refl _).follows.next

theorem next_execScrubTimerExpiry (s : State) : Next s.beginEvent (execScrubTimerExpiry s) := by
  unfold execScrubTimerExpiry
  dsimp only
  split
  · exact (SameBlocks.refl _).follows.next
  · rename_i d ht
    split
    · exact (Effect.scrubExpiry d ht (by assumption)).follows.next
    · exact (SameBlocks.refl _).follows.next

theorem next_execHoldupExpiry (s : State) : Next s.beginEvent (execHoldupExpiry s) := by
  unfold execHoldupExpiry
  dsimp only
  split
  · exact (Effect.holdupExpiry (by assumption)).follows.next
  · exact (SameBlocks.refl _).follows.next

theorem next_execPwarnAsserted (s : State) : Next s.beginEvent (execPwarnAsserted s) := by
  unfold execPwarnAsserted
  dsimp only
  split
  · exact (SameBlocks.refl _).follows.next
  cases h : s.beginEvent.mdc.mode with
  | run => exact (Effect.warnInRun h).follows.next
  | init | fill | holdup | retain | resume => exact (Effect.warn (by rw [h]; decide)).follows.next

theorem next_execPwarnDeasserted (s : State) : Next s.beginEvent (execPwarnDeasserted s) := by
  unfold execPwarnDeasserted
  dsimp only
  split
  · exact (SameBlocks.refl _).follows.next
  cases h : s.beginEvent.mdc.mode with
  | holdup =>
    dsimp only
    split
    · rename_i hc
      exact (Effect.unwarn (by rw [h]; decide) fun _ => hc).follows.next
    · exact (Effect.returnToRun h (by assumption)).follows.next
  | retain => exact (Effect.resume h).follows.next
  | init | fill | run | resume => exact (Effect.unwarn (by rw [h]; decide) fun hh => by rw [h] at hh; cases hh).follows.next

theorem next_execQuietPointApplication (s : State) : Next s.beginEvent (execQuietPointApplication s) := by
  unfold execQuietPointApplication
  dsimp only
  split
  · rename_i h
    rw [Bool.and_eq_true] at h
    exact (Effect.applyCommit h.1 h.2).follows.next
  · exact (SameBlocks.refl _).follows.next

theorem next_execExternalReset (st : Straps) (s : State) : Next s.beginEvent (execExternalReset st s) := by
  unfold execExternalReset
  dsimp only
  split
  · exact (SameBlocks.refl _).follows.next
  · exact (Effect.externalReset st).follows.next

/-! ## The maintenance port -/

/-- A refused byte changes the port alone. -/
theorem sameBlocks_refuseByte {s : State} (h : s.mnt.transfer = .writeIgnored) : SameBlocks s s.refuseByte :=
  .of_busy_port (by rw [h]; simp) rfl

/-- A low byte has the effect of its body, if any, up to changes outside the blocks. -/
theorem follows_lowByte {s : State} {here : BitVec 8 → Bool} {body : Byte → State → State}
    (hbody : ∀ hi, s.mnt.transfer = .writeLow hi → here s.mnt.pointer = true → Follows s (body hi s)) :
    Follows s (s.lowByte here body) := by
  rcases s.lowByte_cases here body with h | ⟨ht, h⟩ | ⟨hi, ht, hp, h⟩
  · rw [h]; exact (SameBlocks.refl s).follows
  · rw [h]; exact (sameBlocks_refuseByte ht).follows
  · rw [h]; exact hbody hi ht hp

/-- A command has its own effect, if any, up to changes outside the blocks. -/
theorem follows_command {s : State} {code : BitVec 4} {lo : Byte} {run : Byte → State → State × ResultCode}
    (hrun : ∀ hi, Effect s (run hi s).1) (hmnt : ∀ hi, (run hi s).1.mnt = s.mnt) : Follows s (s.command code lo run) := by
  rcases s.command_cases code lo run with h | ⟨ht, h⟩ | ⟨hi, ht, -, -, h⟩
  · rw [h]; exact (SameBlocks.refl s).follows
  · rw [h]; exact (sameBlocks_refuseByte ht).follows
  · rw [h]; exact ⟨_, hrun hi, .of_busy_port (by rw [hmnt, ht]; simp) rfl⟩

theorem State.takeFlush_mnt (s : State) : s.takeFlush.1.mnt = s.mnt := by
  unfold State.takeFlush
  split
  · rfl
  · split <;> rfl

theorem State.takeCommit_mnt (s : State) : s.takeCommit.1.mnt = s.mnt := by
  unfold State.takeCommit
  split
  · rfl
  split
  · rfl
  split <;> rfl

theorem State.takeAbort_mnt (s : State) : s.takeAbort.1.mnt = s.mnt := by
  unfold State.takeAbort
  split <;> rfl

theorem next_execUnknownCommand (lo : Byte) (s : State) : Next s.beginEvent (execUnknownCommand lo s) := by
  unfold execUnknownCommand
  split
  · exact (follows_command (fun _ => .nothing) fun _ => rfl).next
  · exact (SameBlocks.refl _).follows.next

theorem next_execFaultEnableWrite (lo : Byte) (s : State) : Next s.beginEvent (execFaultEnableWrite lo s) :=
  (follows_lowByte fun _ ht _ =>
    ⟨_, .setMask (lo.setWidth 6), .of_busy_port (by change s.mnt.transfer ≠ _; rw [show s.mnt.transfer = _ from ht]; simp) rfl⟩).next

theorem follows_writeStaged {s : State} {hi lo held : Byte} (ht : s.mnt.transfer = .writeLow held) :
    Follows s (s.writeStaged hi lo) := by
  have hbusy : s.mnt.transfer ≠ .idle := by rw [ht]; simp
  unfold State.writeStaged
  split
  · exact (SameBlocks.refl s).follows
  rename_i r _
  split
  · exact (SameBlocks.of_busy_port hbusy rfl).follows
  · rename_i hp
    exact ⟨_, .stage r (hi ++ lo) (by simpa using hp), .of_busy_port hbusy rfl⟩

theorem sameBlocks_sendHigh {s : State} (h : s.mnt.transfer ≠ .idle) : SameBlocks s s.sendHigh := by
  refine .of_busy_port h ?_
  unfold State.sendHigh State.takeSnapshot
  split <;> rfl

theorem next_execHeadRecordRead (s : State) : Next s.beginEvent (execHeadRecordRead s) := by
  unfold execHeadRecordRead
  dsimp only
  cases h : s.beginEvent.mnt.transfer with
  | readHigh => exact (sameBlocks_sendHigh (by rw [h]; simp)).follows.next
  | readLow lo => exact (SameBlocks.of_busy_port (by rw [h]; simp) rfl).follows.next
  | idle | writePointer | writeHigh | writeLow _ | writeIgnored => exact (SameBlocks.refl _).follows.next

theorem next_execRegisterPointerWrite (b : Byte) (s : State) : Next s.beginEvent (execRegisterPointerWrite b s) := by
  unfold execRegisterPointerWrite
  dsimp only
  cases h : s.beginEvent.mnt.transfer with
  | writePointer => exact (SameBlocks.of_busy_port (by rw [h]; simp) rfl).follows.next
  | writeIgnored => exact (sameBlocks_refuseByte h).follows.next
  | idle | writeHigh | writeLow _ | readHigh | readLow _ => exact (SameBlocks.refl _).follows.next

theorem next_execReadOnlyRegisterWrite (b : Byte) (s : State) : Next s.beginEvent (execReadOnlyRegisterWrite b s) := by
  unfold execReadOnlyRegisterWrite
  dsimp only
  cases h : s.beginEvent.mnt.transfer with
  | writeHigh =>
    dsimp only
    split
    · exact (SameBlocks.refl _).follows.next
    · exact (SameBlocks.of_busy_port (by rw [h]; simp) rfl).follows.next
  | writeIgnored => exact (sameBlocks_refuseByte h).follows.next
  | idle | writePointer | writeLow _ | readHigh | readLow _ => exact (SameBlocks.refl _).follows.next

theorem next_execRegisterWriteHighByte (hi : Byte) (s : State) : Next s.beginEvent (execRegisterWriteHighByte hi s) := by
  unfold execRegisterWriteHighByte
  dsimp only
  cases h : s.beginEvent.mnt.transfer with
  | writeHigh =>
    dsimp only
    split <;> exact (SameBlocks.of_busy_port (by rw [h]; simp) rfl).follows.next
  | writeIgnored => exact (sameBlocks_refuseByte h).follows.next
  | idle | writePointer | writeLow _ | readHigh | readLow _ => exact (SameBlocks.refl _).follows.next

theorem next_execStartCondition (a : BitVec 7) (dir : Direction) (s : State) :
    Next s.beginEvent (execStartCondition a dir s) := by
  unfold execStartCondition
  dsimp only
  split
  · rename_i h
    rw [Bool.and_eq_true, Bool.not_eq_true'] at h
    obtain ⟨hrst, -⟩ := h
    cases dir with
    | write | read => exact (SameBlocks.mk rfl fun hr => absurd hr (by rw [hrst]; simp)).follows.next
  · exact (SameBlocks.mk rfl fun _ _ => rfl).follows.next

/-! ## Every step -/

/-- Every command's next state follows, by one effect, the state in which its event begins. -/
theorem next_exec (c : Instr) (s : State) : Next s.beginEvent (exec c s) := by
  cases c with
  | write m => exact (follows_gated fun hg => follows_takeWrite m (State.writeGate_taken hg)).next
  | unknownKindRequest kind m =>
    change Next _ (execUnknownKindRequest kind m s)
    unfold execUnknownKindRequest
    dsimp only
    split
    · exact (follows_gated fun _ => (SameBlocks.answer ..).follows).next
    · exact (SameBlocks.refl _).follows.next
  | read m => exact (follows_gated fun hg => follows_takeRead m (State.readGate_taken hg)).next
  | fence m => exact (follows_gated fun hg => follows_takeFence m (State.fenceGate_taken hg)).next
  | grant => exact next_execGrant s
  | departure => exact next_execDeparture s
  | lineReadCompletion => exact next_execLineReadCompletion s
  | refreshCompletion => exact next_execRefreshCompletion s
  | scrubCompletion => exact next_execScrubCompletion s
  | fillCompletion => exact next_execFillCompletion s
  | powerUpCompletion => exact next_execPowerUpCompletion s
  | selfRefreshEntryCompletion => exact next_execSelfRefreshEntryCompletion s
  | selfRefreshExitCompletion => exact next_execSelfRefreshExitCompletion s
  | ageTimerExpiry i => exact (Effect.ripen i).follows.next
  | refreshTick n => exact next_execRefreshTick n s
  | scrubTimerExpiry => exact next_execScrubTimerExpiry s
  | holdupExpiry => exact next_execHoldupExpiry s
  | pwarnAsserted => exact next_execPwarnAsserted s
  | pwarnDeasserted => exact next_execPwarnDeasserted s
  | quietPointApplication => exact next_execQuietPointApplication s
  | powerOnReset p => exact (Effect.powerOn p).follows.next
  | externalReset st => exact next_execExternalReset st s
  | rstDeasserted => exact Effect.releaseReset.follows.next
  | flush lo => exact (follows_command (fun _ => .flush) fun _ => State.takeFlush_mnt _).next
  | popLog lo => exact (follows_command (fun _ => .popLog) fun _ => rfl).next
  | clearOverflow lo => exact (follows_command (fun _ => .clearOverflow) fun _ => rfl).next
  | clearCorrected lo => exact (follows_command (fun hi => .clearCorrected (rankArgument hi)) fun _ => rfl).next
  | commit lo => exact (follows_command (fun _ => .commit) fun _ => State.takeCommit_mnt _).next
  | abortCommit lo => exact (follows_command (fun _ => .abort) fun _ => State.takeAbort_mnt _).next
  | reset lo st => exact (follows_lowByte fun _ _ _ => ⟨_, .maintenanceReset st, rfl, fun _ h => h⟩).next
  | unknownCommand lo => exact next_execUnknownCommand lo s
  | faultEnableWrite lo => exact next_execFaultEnableWrite lo s
  | stagedRegisterWrite lo => exact (follows_lowByte fun _ ht _ => follows_writeStaged ht).next
  | headRecordRead => exact next_execHeadRecordRead s
  | registerPointerWrite b => exact next_execRegisterPointerWrite b s
  | readOnlyRegisterWrite b => exact next_execReadOnlyRegisterWrite b s
  | storedBitFlip r l w b => exact (Effect.flip r l w b).follows.next
  | startCondition a dir => exact next_execStartCondition a dir s
  | stopCondition => exact (SameBlocks.mk rfl fun _ _ => rfl).follows.next
  | registerWriteHighByte hi => exact next_execRegisterWriteHighByte hi s

theorem follows_idleTick (s : State) : Follows s.beginEvent s.idleTick := by
  unfold State.idleTick
  dsimp only
  split
  · exact (SameBlocks.refl _).follows
  · rename_i h
    exact (Effect.passTime (by simpa using h)).follows

/-- A step is, up to changes outside the blocks, one effect. -/
theorem step_follows {s t : State} (h : step s = .next t) : ∃ u, SameBlocks s u ∧ Follows u t := by
  unfold step at h
  split at h
  · cases h
    exact ⟨_, .beginEvent s s.pending, follows_idleTick s⟩
  · rename_i c rest _
    obtain ⟨t', ht, hf⟩ := next_exec c { s with pending := rest }
    rw [ht] at h
    cases h
    exact ⟨_, .beginEvent s rest, hf⟩

/-- A predicate that changes outside the blocks and every effect keep is kept by every step. -/
theorem step_keeps {P : State → Prop} (hsame : ∀ {s t : State}, SameBlocks s t → P s → P t)
    (heffect : ∀ {s t : State}, P s → Effect s t → P t) (s t : State) (hs : P s) (h : step s = .next t) : P t := by
  obtain ⟨u, hu, v, hv, ht⟩ := step_follows h
  exact hsame ht (heffect (hsame hu hs) hv)

end Sys2Proof.Machine

/-! # What each effect leaves unchanged

Each operation that decides something, written as the state it starts from with the blocks that it may change. -/

namespace Sys2Proof.Machine

theorem State.faultIf_frame (s : State) (c : Bool) (e : FaultEvent) :
    s.faultIf c e = { s with flg := (s.faultIf c e).flg } := by
  unfold State.faultIf
  split <;> rfl

theorem State.addCorrected_frame (s : State) (r : Rank) (k : Nat) :
    s.addCorrected r k = { s with chk := (s.addCorrected r k).chk, flg := (s.addCorrected r k).flg } := by
  unfold State.addCorrected
  dsimp only
  rw [State.faultIf_frame]

theorem State.depart_frame (s : State) (e : Entry) (rest : List Entry) (r : Rank) (l : RankLine) :
    s.depart e rest r l =
      { s with
        pq := rest, seq := { s.seq with cycle := none }, array := s.arrayAfterCycle fun _ => true
        ft := (s.depart e rest r l).ft, flg := (s.depart e rest r l).flg, chk := (s.depart e rest r l).chk
        rsp := (s.depart e rest r l).rsp } := by
  unfold State.depart
  dsimp only
  rw [State.addCorrected_frame, State.faultIf_frame]
  rfl

theorem State.finishRead_frame (s : State) (x : ReadRecord) (r : Rank) (l : RankLine) :
    s.finishRead x r l =
      { s with
        rt := s.rt.filter ReadRecord.isWaiting, seq := { s.seq with cycle := none }
        flg := (s.finishRead x r l).flg, chk := (s.finishRead x r l).chk, rsp := (s.finishRead x r l).rsp } := by
  unfold State.finishRead
  dsimp only
  rw [State.addCorrected_frame, State.faultIf_frame]
  rfl

theorem State.advancePointer_frame (s : State) : s.advancePointer = { s with scr := s.advancePointer.scr } := by
  unfold State.advancePointer
  split
  · rfl
  · split <;> rfl

theorem State.finishScrub_frame (s : State) (r : Rank) (l : RankLine) :
    s.finishScrub r l =
      { s with
        seq := { s.seq with cycle := none }, array := s.arrayAfterCycle fun _ => true
        scr := (s.finishScrub r l).scr, flg := (s.finishScrub r l).flg, chk := (s.finishScrub r l).chk } := by
  unfold State.finishScrub
  dsimp only
  rw [State.advancePointer_frame, State.addCorrected_frame, State.faultIf_frame]
  rfl

theorem State.becomeRun_frame (s : State) :
    s.becomeRun = { s with mdc := s.becomeRun.mdc, scr := s.becomeRun.scr, cfg := s.becomeRun.cfg } := by
  unfold State.becomeRun State.startScrub State.enterHoldup State.cancelCommit
  dsimp only
  repeat' split
  all_goals rfl

theorem State.endInit_frame (s : State) :
    s.endInit =
      { s with
        rfs := s.startTicks.rfs, pins := { s.pins with portReady := true }
        mdc := s.endInit.mdc, scr := s.endInit.scr, cfg := s.endInit.cfg } := by
  unfold State.endInit
  dsimp only
  split
  · rw [State.becomeRun_frame]; rfl
  · rfl

theorem State.afterModeOperation_frame (s : State) :
    s.afterModeOperation =
      { s with
        rfs := s.afterModeOperation.rfs, pins := s.afterModeOperation.pins
        mdc := s.afterModeOperation.mdc, scr := s.afterModeOperation.scr, cfg := s.afterModeOperation.cfg } := by
  unfold State.afterModeOperation
  split
  · rw [State.endInit_frame]
  · rfl

theorem State.finishExit_frame (s : State) :
    s.finishExit =
      { s with
        rfs := s.finishExit.rfs, pins := s.finishExit.pins
        mdc := s.finishExit.mdc, scr := s.finishExit.scr, cfg := s.finishExit.cfg } := by
  unfold State.finishExit
  split
  · rw [State.becomeRun_frame]; rfl
  · rw [State.endInit_frame]
  all_goals rfl

theorem State.discardQueued_frame (s : State) :
    s.discardQueued =
      { s with pq := s.pq.filter Entry.isWriting, ft := s.discardQueued.ft, rsp := s.discardQueued.rsp } := by
  unfold State.discardQueued
  rw [State.foldReports_frame]

theorem State.expireHoldup_frame (s : State) :
    s.expireHoldup =
      { s with
        pq := s.pq.filter Entry.isWriting, rt := s.rt.filter fun x => !x.isWaiting
        ft := s.discardQueued.ft, flg := s.expireHoldup.flg, rsp := s.expireHoldup.rsp
        mdc := { s.mdc with holdupTimer := .stopped } } := by
  unfold State.expireHoldup
  dsimp only
  rw [State.faultIf_frame, State.discardQueued_frame]
  rfl

theorem State.startScrub_frame (s : State) : s.startScrub = { s with scr := s.startScrub.scr } := by
  unfold State.startScrub
  split <;> rfl

theorem State.returnToRun_frame (s : State) :
    s.returnToRun =
      { s with mdc := { s.mdc with mode := .run, holdupTimer := .stopped }, scr := s.returnToRun.scr } := by
  unfold State.returnToRun
  rw [State.startScrub_frame]
  rfl

theorem State.enterHoldup_frame (s : State) :
    s.enterHoldup =
      { s with
        mdc := { s.mdc with mode := .holdup, holdupTimer := .running (s.now + s.cfg.active.holdTime) }
        scr := { s.scr with timer := .stopped, due := false }, cfg := s.enterHoldup.cfg } := by
  unfold State.enterHoldup State.cancelCommit
  split <;> rfl

theorem State.warmReset_frame (s : State) (c : ResetCause) (st : Straps) :
    s.warmReset c st =
      { s.resetBlocks st (s.recordAtReset c) with
        array := (s.warmReset c st).array, cuts := (s.warmReset c st).cuts } := by
  unfold State.warmReset State.cutCycle
  split <;> rfl

theorem State.takeFlush_frame (s : State) : s.takeFlush.1 = { s with pq := s.takeFlush.1.pq, ft := s.takeFlush.1.ft } := by
  unfold State.takeFlush
  split
  · rfl
  · split <;> rfl

theorem State.takeCommit_frame (s : State) : s.takeCommit.1 = { s with cfg := s.takeCommit.1.cfg } := by
  unfold State.takeCommit
  split
  · rfl
  split
  · rfl
  split <;> rfl

theorem State.takeAbort_frame (s : State) : s.takeAbort.1 = { s with cfg := s.takeAbort.1.cfg } := by
  unfold State.takeAbort
  split <;> rfl

end Sys2Proof.Machine

/-! # The log, the array and the timers

Every effect keeps the bound of the fault log and the level of FAULT_N (R109, R115), the canonical form of the array
(log entry 9), and every expiry ahead (log entry 3). -/

namespace Sys2Proof.Machine

/-! ## The fault log -/

/-- A fault log of at most 8 records, whose line is asserted exactly while one is of an enabled kind. -/
def FaultLog.Sound (f : FaultLog) : Prop := f.records.length ≤ 8 ∧ f.line = someEnabled f.mask f.records

namespace FaultLog.Sound

variable {f : FaultLog}

theorem take (h : f.Sound) (e : FaultEvent) : (f.take e).Sound := by
  obtain ⟨hlen, hline⟩ := h
  unfold FaultLog.take
  split
  · refine ⟨by simp; omega, ?_⟩
    simp [hline, someEnabled, List.any_append]
  · exact ⟨hlen, hline⟩

theorem take_if (h : f.Sound) (c : Bool) (e : FaultEvent) : (if c then f.take e else f).Sound := by
  split
  · exact h.take e
  · exact h

theorem pop (h : f.Sound) : f.pop.1.Sound := by
  obtain ⟨hlen, hline⟩ := h
  cases hr : f.records with
  | nil => rw [FaultLog.pop_of_nil hr]; exact ⟨hlen, hline⟩
  | cons x rest =>
    rw [FaultLog.pop_of_cons hr]
    refine ⟨by rw [hr] at hlen; simp at hlen ⊢; omega, ?_⟩
    rw [hline, hr]
    change ((enabledIn f.mask x.event || someEnabled f.mask rest) && someEnabled f.mask rest) = someEnabled f.mask rest
    cases someEnabled f.mask rest <;> simp

theorem setMask (h : f.Sound) (m : BitVec 6) : (f.setMask m).Sound := ⟨h.1, rfl⟩

theorem atReset : faultLogAtReset.Sound := ⟨by decide, by decide⟩

end FaultLog.Sound

theorem LogSound.of_flg {s t : State} (hs : LogSound s) (h : t.flg = s.flg) : LogSound t := by
  unfold LogSound
  rw [h]
  exact hs

theorem LogSound.depart {s : State} (hs : LogSound s) (e : Entry) (rest : List Entry) (r : Rank) (l : RankLine) :
    LogSound (s.depart e rest r l) := by
  have h : (s.depart e rest r l).flg.Sound := by
    unfold State.depart
    simp only [State.report_flg, State.endCycle_flg, State.addCorrected_flg, State.faultIf_flg]
    exact (FaultLog.Sound.take_if hs _ _).take_if _ _
  exact h

theorem LogSound.finishRead {s : State} (hs : LogSound s) (x : ReadRecord) (r : Rank) (l : RankLine) :
    LogSound (s.finishRead x r l) := by
  have h : (s.finishRead x r l).flg.Sound := by
    unfold State.finishRead
    simp only [State.send_flg, State.endCycle_flg, State.addCorrected_flg, State.faultIf_flg]
    exact (FaultLog.Sound.take_if hs _ _).take_if _ _
  exact h

theorem LogSound.finishScrub {s : State} (hs : LogSound s) (r : Rank) (l : RankLine) : LogSound (s.finishScrub r l) := by
  have h : (s.finishScrub r l).flg.Sound := by
    unfold State.finishScrub
    simp only [State.advancePointer_flg, State.endCycle_flg, State.addCorrected_flg, State.faultIf_flg]
    exact (FaultLog.Sound.take_if hs _ _).take_if _ _
  exact h

theorem LogSound.expireHoldup {s : State} (hs : LogSound s) : LogSound s.expireHoldup := by
  have h : s.expireHoldup.flg.Sound := by
    unfold State.expireHoldup
    simp only [State.stopHoldup_flg, State.faultIf_flg, State.refuseWaiting_flg, State.discardQueued_flg]
    exact FaultLog.Sound.take_if hs _ _
  exact h

theorem LogSound.tick {s : State} (hs : LogSound s) (n : Rank) (d : Time) : LogSound (s.tick n d) := by
  have h : (s.tick n d).flg.Sound := by
    rw [State.tick_eq]
    dsimp only
    split
    · exact hs
    · exact FaultLog.Sound.take hs _
  exact h

theorem Effect.logSound {s t : State} (hs : LogSound s) (h : Effect s t) : LogSound t := by
  cases h with
  | nothing | passTime | coalesce | append | addRecord | raiseFence | grantPowerUp | grantEntry | grantExit
  | grantRefresh | grantDrain | grantRead | grantFill | grantScrub | finishRefresh | finishEntry | ripen
  | scrubExpiry | warn | unwarn | resume | applyCommit | releaseReset | clearOverflow | clearCorrected | stage
  | flip => exact hs
  | depart e rest r l => exact hs.depart e rest r l
  | finishRead x r l => exact hs.finishRead x r l
  | finishScrub r l => exact hs.finishScrub r l
  | finishFill => exact hs.of_flg (by rw [State.advanceFill_frame]; rfl)
  | finishPowerUp => exact hs.of_flg (by rw [State.afterModeOperation_frame]; rfl)
  | finishExit => exact hs.of_flg (by rw [State.finishExit_frame]; rfl)
  | tick n d => exact hs.tick n d
  | holdupExpiry => exact hs.expireHoldup
  | warnInRun => exact hs.of_flg (by rw [State.enterHoldup_frame]; rfl)
  | returnToRun => exact hs.of_flg (by rw [State.returnToRun_frame]; rfl)
  | powerOn => exact FaultLog.Sound.atReset
  | externalReset | maintenanceReset =>
    unfold LogSound
    simp only [State.setRst, State.warmReset_flg]
    exact FaultLog.Sound.atReset
  | flush => exact hs.of_flg (by rw [State.takeFlush_frame])
  | popLog => exact FaultLog.Sound.pop hs
  | commit => exact hs.of_flg (by rw [State.takeCommit_frame])
  | abort => exact hs.of_flg (by rw [State.takeAbort_frame])
  | setMask m => exact FaultLog.Sound.setMask hs m

/-- Settles O8: taking a fault, removing a record and setting the mask keep the log sound, and nothing else touches it. -/
theorem stepKeepsLogSound : Obligations.StepKeepsLogSound :=
  step_keeps (fun h hs => hs.of_flg h.flg) Effect.logSound

/-! ## The array -/

theorem ArraySound.of_array {s t : State} (hs : ArraySound s) (h : t.array = s.array) : ArraySound t := by
  unfold ArraySound
  rw [h]
  exact hs

theorem ArraySound.arrayAfterCycle {s t : State} (hs : ArraySound s) {takes : Fin 4 → Bool}
    (h : t.array = s.arrayAfterCycle takes) : ArraySound t := by
  unfold ArraySound
  rw [h]
  exact State.wf_arrayAfterCycle hs takes

theorem ArraySound.warmReset {s : State} (hs : ArraySound s) (c : ResetCause) (st : Straps) :
    ArraySound (s.warmReset c st) := by
  by_cases h : s.idle = true
  · exact hs.of_array (by rw [State.warmReset_array, if_pos h])
  · exact hs.arrayAfterCycle (by rw [State.warmReset_array, if_neg h])

theorem Effect.arraySound {s t : State} (hs : ArraySound s) (h : Effect s t) : ArraySound t := by
  cases h with
  | nothing | passTime | coalesce | append | addRecord | raiseFence | grantPowerUp | grantEntry | grantExit
  | grantRefresh | grantDrain | grantRead | grantFill | grantScrub | finishRefresh | finishEntry | ripen
  | scrubExpiry | warn | unwarn | resume | applyCommit | releaseReset | popLog | clearOverflow | clearCorrected | setMask
  | stage => exact hs
  | depart => exact hs.arrayAfterCycle (by rw [State.depart_frame])
  | finishRead => exact hs.of_array (by rw [State.finishRead_frame])
  | finishScrub => exact hs.arrayAfterCycle (by rw [State.finishScrub_frame])
  | finishFill => exact hs.arrayAfterCycle (takes := fun _ => true) (by rw [State.advanceFill_frame]; rfl)
  | finishPowerUp => exact hs.of_array (by rw [State.afterModeOperation_frame]; rfl)
  | finishExit => exact hs.of_array (by rw [State.finishExit_frame]; rfl)
  | tick => exact hs.of_array (by rw [State.tick_eq])
  | holdupExpiry => exact hs.of_array (by rw [State.expireHoldup_frame])
  | warnInRun => exact hs.of_array (by rw [State.enterHoldup_frame]; rfl)
  | returnToRun => exact hs.of_array (by rw [State.returnToRun_frame]; rfl)
  | powerOn => rfl
  | externalReset st => exact hs.warmReset .external st
  | maintenanceReset st => exact hs.warmReset .maintenance st
  | flush => exact hs.of_array (by rw [State.takeFlush_frame])
  | commit => exact hs.of_array (by rw [State.takeCommit_frame])
  | abort => exact hs.of_array (by rw [State.takeAbort_frame])
  | flip r l w b => exact Memory.wf_store hs _ _

/-- Settles O9: every write of the array is a store or the words of a cycle, and both keep the canonical form. -/
theorem stepKeepsArraySound : Obligations.StepKeepsArraySound :=
  step_keeps (fun h hs => hs.of_array h.array) Effect.arraySound

end Sys2Proof.Machine

/-! # Timers and the configuration

No effect lets an expiry pass (log entry 3): a timer starts with its expiry ahead, and time goes on only where none is
due. Every effect keeps the active set legal (R135, R138, R140): it changes at a reset and at the application of a commit,
and a pending commit's staged set does not change. -/

namespace Sys2Proof.Machine

/-! ## Expiries ahead -/

theorem timerAhead_fresh (now interval : Time) : TimerAhead (.running (now + interval)) now := Nat.le_add_right now interval

theorem TimerAhead.of_not_due {t : Timer} {now : Time} (h : t.due now = false) : TimerAhead t (now + 1) := by
  cases t with
  | stopped => trivial
  | running d => simpa [Timer.due] using h

theorem State.not_due_of_someTimerDue {s : State} (h : s.someTimerDue = false) :
    (∀ e ∈ s.pq, e.timer.due s.now = false) ∧ (∀ n : Rank, s.rfs[n].timer.due s.now = false) ∧
      s.scr.timer.due s.now = false ∧ s.mdc.holdupTimer.due s.now = false := by
  simp only [State.someTimerDue, Bool.or_eq_false_iff] at h
  obtain ⟨⟨⟨⟨⟨⟨hq, h0⟩, h1⟩, h2⟩, h3⟩, hs⟩, hh⟩ := h
  refine ⟨fun e he => ?_, ?_, hs, hh⟩
  · have := List.any_eq_false.1 hq e he
    simpa using this
  · rw [forall_rank]
    exact ⟨h0, h1, h2, h3⟩

namespace TimersAhead

variable {s t : State}

/-- Timers that an event leaves as they were, or starts afresh, are ahead. -/
theorem of_parts (hnow : t.now = s.now) (hpq : ∀ e ∈ t.pq, TimerAhead e.timer s.now)
    (hrfs : ∀ n : Rank, TimerAhead t.rfs[n].timer s.now) (hscr : TimerAhead t.scr.timer s.now)
    (hhold : TimerAhead t.mdc.holdupTimer s.now) : TimersAhead t := by
  unfold TimersAhead
  rw [hnow]
  exact ⟨hpq, hrfs, hscr, hhold⟩

/-- An event that changes, of all that has a timer, the queue alone. -/
theorem of_pq (hs : TimersAhead s) (hnow : t.now = s.now) (hrfs : t.rfs = s.rfs) (hscr : t.scr = s.scr)
    (hhold : t.mdc = s.mdc) (hpq : ∀ e ∈ t.pq, ∃ e' ∈ s.pq, e.timer = e'.timer) : TimersAhead t := by
  obtain ⟨hq, hr, hc, hh⟩ := hs
  refine of_parts hnow (fun e he => ?_) (by rw [hrfs]; exact hr) (by rw [hscr]; exact hc) (by rw [hhold]; exact hh)
  obtain ⟨e', he', ht⟩ := hpq e he
  rw [ht]
  exact hq e' he'

/-- An event that changes nothing that has a timer. -/
theorem of_same (hs : TimersAhead s) (hnow : t.now = s.now) (hpq : t.pq = s.pq) (hrfs : t.rfs = s.rfs)
    (hscr : t.scr = s.scr) (hmdc : t.mdc = s.mdc) : TimersAhead t :=
  hs.of_pq hnow hrfs hscr hmdc fun e he => ⟨e, hpq ▸ he, rfl⟩

end TimersAhead

/-- A map over the queue that keeps the timers. -/
theorem exists_timer_of_mem_map {f : Entry → Entry} (hf : ∀ e, (f e).timer = e.timer) {q : List Entry} :
    ∀ e ∈ q.map f, ∃ e' ∈ q, e.timer = e'.timer := by
  intro e he
  obtain ⟨x, hx, rfl⟩ := List.mem_map.1 he
  exact ⟨x, hx, hf x⟩

theorem State.startTicks_ahead (s : State) (n : Rank) : TimerAhead s.startTicks.rfs[n].timer s.now := by
  simp only [State.startTicks, Fin.getElem_fin, Vector.getElem_ofFn]
  split
  · exact timerAhead_fresh _ _
  · trivial

theorem State.startScrub_ahead {s : State} (h : TimerAhead s.scr.timer s.now) : TimerAhead s.startScrub.scr.timer s.now := by
  unfold State.startScrub
  split
  · exact timerAhead_fresh _ _
  · exact h

theorem TimersAhead.becomeRun {s : State} (hs : TimersAhead s) : TimersAhead s.becomeRun := by
  obtain ⟨hq, hr, hc, hh⟩ := hs
  refine .of_parts (s := s) (by simp) (by simpa using hq) (by simpa using hr) ?_ ?_
  · rw [State.becomeRun_scr]
    split
    · trivial
    · split
      · exact timerAhead_fresh _ _
      · exact hc
  · unfold State.becomeRun
    dsimp only
    split
    · simp only [State.enterHoldup_mdc, State.startScrub_now, State.setMode_now]
      exact timerAhead_fresh _ _
    · simpa using hh

theorem TimersAhead.startTicks {s : State} (hs : TimersAhead s) : TimersAhead s.startTicks := by
  obtain ⟨hq, -, hc, hh⟩ := hs
  exact .of_parts (s := s) rfl hq s.startTicks_ahead hc hh

theorem TimersAhead.endInit {s : State} (hs : TimersAhead s) : TimersAhead s.endInit := by
  have hready : TimersAhead s.startTicks.raiseReady := hs.startTicks.of_same rfl rfl rfl rfl rfl
  unfold State.endInit
  dsimp only
  split
  · exact hready.becomeRun
  · exact hready

theorem TimersAhead.afterModeOperation {s : State} (hs : TimersAhead s) : TimersAhead s.afterModeOperation := by
  unfold State.afterModeOperation
  split
  · exact hs.endInit
  · exact hs

theorem TimersAhead.clearDebts {s : State} (hs : TimersAhead s) : TimersAhead s.clearDebts := by
  obtain ⟨hq, hr, hc, hh⟩ := hs
  exact .of_parts (s := s) rfl hq (by simpa [State.clearDebts] using hr) hc hh

theorem TimersAhead.finishExit {s : State} (hs : TimersAhead s) : TimersAhead s.finishExit := by
  unfold State.finishExit
  split
  · exact hs.clearDebts.startTicks.becomeRun
  · exact hs.endInit
  all_goals exact hs

theorem TimersAhead.finishEntry {s : State} (hs : TimersAhead s) : TimersAhead s.finishEntry := by
  obtain ⟨hq, -, hc, -⟩ := hs
  refine .of_parts (s := s) rfl hq (fun n => ?_) hc trivial
  simp only [State.finishEntry, State.setMode, State.stopTicks, Fin.getElem_fin, Vector.getElem_map]
  trivial

theorem TimersAhead.advanceFill {s : State} (hs : TimersAhead s) : TimersAhead s.advanceFill := by
  unfold State.advanceFill
  split
  · exact hs
  · split
    · exact hs
    · exact TimersAhead.becomeRun hs

/-- The tick taken at its time places the next one ahead. -/
theorem TimersAhead.tick {s : State} (hs : TimersAhead s) {n : Rank} {d : Time}
    (ht : s.rfs[n].timer = .running d) : TimersAhead (s.tick n d) := by
  obtain ⟨hq, hr, hc, hh⟩ := hs
  have hnd : s.now ≤ d := by
    have := hr n
    rw [ht] at this
    exact this
  rw [State.tick_eq]
  refine .of_parts (s := s) rfl hq (fun m => ?_) hc hh
  by_cases hm : m = n
  · rw [hm, State.tickedRanks_self]
    exact Nat.le_trans hnd (Nat.le_add_right _ _)
  · rw [State.tickedRanks_of_ne hm]
    exact hr m

theorem TimersAhead.applyCommit {s : State} (hs : TimersAhead s) : TimersAhead s.applyCommit := by
  obtain ⟨hq, hr, hc, hh⟩ := hs
  refine .of_parts (s := s) rfl hq (fun n => ?_) ?_ hh
  · simp only [State.applyCommit, refreshAtCommit, Fin.getElem_fin, Vector.getElem_ofFn]
    split
    · exact hr n
    · split
      · exact timerAhead_fresh _ _
      · trivial
  · have hp : ∀ x, (scrubPointerAtCommit s.cfg.active s.cfg.staged x).timer = x.timer := by
      intro x
      unfold scrubPointerAtCommit
      split <;> rfl
    simp only [State.applyCommit, hp, scrubTimerAtCommit]
    split
    · split
      · exact hc
      · exact timerAhead_fresh _ _
    · trivial

/-- A state right after a reset runs no timer. -/
theorem TimersAhead.of_reset {t : State} (hpq : t.pq = []) (hrfs : t.rfs = refreshAtReset) (hscr : t.scr = scrubberAtReset)
    (hhold : t.mdc.holdupTimer = .stopped) : TimersAhead t := by
  refine .of_parts rfl (by rw [hpq]; simp) (fun n => ?_) (by rw [hscr]; trivial) (by rw [hhold]; trivial)
  rw [hrfs]
  simp only [refreshAtReset, Fin.getElem_fin, Vector.getElem_replicate]
  trivial

theorem State.advancePointer_timer (s : State) : s.advancePointer.scr.timer = s.scr.timer := by
  unfold State.advancePointer
  split
  · rfl
  · split <;> rfl

theorem Effect.timersAhead {s t : State} (hs : TimersAhead s) (h : Effect s t) : TimersAhead t := by
  have hall := hs
  obtain ⟨hq, hr, hc, hh⟩ := hall
  cases h with
  | nothing | addRecord | grantPowerUp | grantEntry | grantExit | grantRefresh | grantRead | grantFill
  | grantScrub | warn | unwarn | resume | releaseReset | popLog | clearOverflow | clearCorrected | setMask
  | stage | flip => exact hs
  | passTime hdue =>
    obtain ⟨dq, dr, dc, dh⟩ := State.not_due_of_someTimerDue hdue
    exact ⟨fun e he => .of_not_due (dq e he), fun n => .of_not_due (dr n), .of_not_due dc, .of_not_due dh⟩
  | coalesce m => exact hs.of_pq rfl rfl rfl rfl (exists_timer_of_mem_map fun e => by split <;> rfl)
  | append m =>
    refine .of_parts (s := s) rfl (fun e he => ?_) hr hc hh
    rcases List.mem_append.1 he with he | he
    · obtain ⟨x, hx, ht⟩ := exists_timer_of_mem_map (fun e => by split <;> rfl) e he
      rw [ht]
      exact hq x hx
    · rw [List.mem_singleton.1 he, newEntry]
      dsimp only
      split
      · trivial
      · exact timerAhead_fresh _ _
  | raiseFence m => exact hs.of_pq rfl rfl rfl rfl (exists_timer_of_mem_map fun e => by split <;> rfl)
  | grantDrain e rest r hwork hpq hrank =>
    refine hs.of_pq rfl rfl rfl rfl fun x hx => ?_
    rcases List.mem_cons.1 hx with rfl | hx
    · exact ⟨e, by rw [hpq]; simp, rfl⟩
    · exact ⟨x, by rw [hpq]; simp [hx], rfl⟩
  | depart e rest r l hhead =>
    rw [State.depart_frame]
    exact hs.of_pq rfl rfl rfl rfl fun x hx => ⟨x, by rw [hhead.1]; exact List.mem_cons_of_mem _ hx, rfl⟩
  | finishRead => rw [State.finishRead_frame]; exact hs
  | finishRefresh n =>
    refine .of_parts (s := s) rfl hq (fun m => ?_) hc hh
    by_cases hm : m = n
    · subst hm; simpa [State.payDebt, State.endCycle] using hr m
    · have : (n : Nat) ≠ m := Fin.val_ne_of_ne (Ne.symm hm)
      simpa [State.payDebt, State.endCycle, Vector.getElem_set_ne, this] using hr m
  | finishScrub r l =>
    refine .of_parts (s := s) (by rw [State.finishScrub_frame]) (by rw [State.finishScrub_frame]; exact hq)
      (by rw [State.finishScrub_frame]; exact hr) ?_ (by rw [State.finishScrub_frame]; exact hh)
    unfold State.finishScrub
    dsimp only
    rw [State.advancePointer_timer]
    simpa [State.finishWords] using hc
  | finishFill => exact TimersAhead.advanceFill hs
  | finishPowerUp => exact TimersAhead.afterModeOperation hs
  | finishEntry => exact hs.finishEntry
  | finishExit => exact TimersAhead.finishExit hs
  | ripen i =>
    refine .of_parts (s := s) rfl (fun e he => ?_) hr hc hh
    obtain ⟨j, hj, rfl⟩ := List.mem_iff_getElem.1 he
    rw [List.length_modify] at hj
    simp only [List.getElem_modify]
    have hm := hq _ (List.getElem_mem hj)
    split
    · unfold Entry.ripened
      split
      · trivial
      · exact hm
    · exact hm
  | tick n d ht => exact hs.tick ht
  | scrubExpiry d ht hd =>
    refine .of_parts (s := s) rfl hq hr ?_ hh
    rw [ht] at hc
    exact Nat.le_trans hc (Nat.le_add_right _ _)
  | holdupExpiry =>
    rw [State.expireHoldup_frame]
    exact .of_parts (s := s) rfl (fun e he => hq e (List.mem_filter.1 he).1) hr hc trivial
  | warnInRun =>
    rw [State.enterHoldup_frame]
    exact .of_parts (s := s) rfl hq hr trivial (timerAhead_fresh _ _)
  | returnToRun =>
    have hscr := State.startScrub_ahead (s := ((s.setPwarn false).setMode .run).stopHoldup) hc
    refine .of_parts (s := s) ?_ ?_ ?_ hscr ?_ <;> rw [State.returnToRun_frame]
    · rfl
    · exact hq
    · exact hr
    · trivial
  | applyCommit => exact hs.applyCommit
  | powerOn | externalReset | maintenanceReset =>
    exact .of_reset (by simp [State.setRst]) (by simp [State.setRst]) (by simp [State.setRst])
      (by simp [State.setRst, modeControllerAtReset])
  | flush =>
    refine hs.of_pq (by rw [State.takeFlush_frame]) (by rw [State.takeFlush_frame]) (by rw [State.takeFlush_frame])
      (by rw [State.takeFlush_frame]) ?_
    unfold State.takeFlush
    split
    · exact fun e he => ⟨e, he, rfl⟩
    split
    · exact fun e he => ⟨e, he, rfl⟩
    · exact exists_timer_of_mem_map (f := fun e => { e with flushed := true, isOpen := false }) fun _ => rfl
  | commit => rw [State.takeCommit_frame]; exact hs
  | abort => rw [State.takeAbort_frame]; exact hs

/-- Settles O10: every timer starts with its expiry ahead, and time goes on only where no expiry is due. -/
theorem stepKeepsTimersAhead : Obligations.StepKeepsTimersAhead :=
  step_keeps (fun h hs => hs.of_same h.now h.pq h.rfs h.scr h.mdc) Effect.timersAhead

/-! ## The configuration -/

theorem commitCheck_strapDerived (st : Straps) : commitCheck (strapDerived st) = none := by
  have key : ∀ (r z : BitVec 2), commitCheck (strapDerived { ranks := r, size := z, maddr := 0 }) = none := by decide
  exact key st.ranks st.size

theorem ConfigSound.of_cfg {s t : State} (hs : ConfigSound s) (h : t.cfg = s.cfg) : ConfigSound t := by
  unfold ConfigSound
  rw [h]
  exact hs

theorem ConfigSound.of_reset {t : State} {st : Straps} (h : t.cfg = configAtReset st) : ConfigSound t := by
  unfold ConfigSound
  rw [h]
  exact ⟨commitCheck_strapDerived st, fun h => by cases h⟩

/-- A pending commit that ends leaves the active set as it was. -/
theorem ConfigSound.of_ended {s t : State} (hs : ConfigSound s) (ha : t.cfg.active = s.cfg.active)
    (hp : t.cfg.pending = false) : ConfigSound t := by
  unfold ConfigSound
  rw [ha, hp]
  exact ⟨hs.1, fun h => by cases h⟩

theorem ConfigSound.cancelCommit {s : State} (hs : ConfigSound s) : ConfigSound s.cancelCommit := by
  unfold State.cancelCommit
  split
  · exact hs.of_ended rfl rfl
  · exact hs

theorem ConfigSound.enterHoldup {s : State} (hs : ConfigSound s) : ConfigSound s.enterHoldup :=
  (ConfigSound.cancelCommit (s := (s.setMode .holdup).startHoldup) hs).of_cfg rfl

theorem ConfigSound.becomeRun {s : State} (hs : ConfigSound s) : ConfigSound s.becomeRun := by
  have hrun : ConfigSound (s.setMode .run).startScrub := hs.of_cfg (by rw [State.startScrub_frame]; rfl)
  unfold State.becomeRun
  dsimp only
  split
  · exact hrun.enterHoldup
  · exact hrun

theorem ConfigSound.endInit {s : State} (hs : ConfigSound s) : ConfigSound s.endInit := by
  unfold State.endInit
  dsimp only
  split
  · exact ConfigSound.becomeRun (s := s.startTicks.raiseReady) hs
  · exact hs

theorem ConfigSound.afterModeOperation {s : State} (hs : ConfigSound s) : ConfigSound s.afterModeOperation := by
  unfold State.afterModeOperation
  split
  · exact hs.endInit
  · exact hs

theorem ConfigSound.finishExit {s : State} (hs : ConfigSound s) : ConfigSound s.finishExit := by
  unfold State.finishExit
  split
  · exact ConfigSound.becomeRun (s := s.clearDebts.startTicks) hs
  · exact hs.endInit
  all_goals exact hs

theorem ConfigSound.advanceFill {s : State} (hs : ConfigSound s) : ConfigSound s.advanceFill := by
  unfold State.advanceFill
  split
  · exact hs
  · split
    · exact hs
    · exact ConfigSound.becomeRun hs

theorem ConfigSound.takeCommit {s : State} (hs : ConfigSound s) : ConfigSound s.takeCommit.1 := by
  unfold State.takeCommit
  split
  · exact hs
  split
  · exact hs
  split
  · exact hs
  · rename_i hstaged
    exact ⟨hs.1, fun _ => hstaged⟩

theorem ConfigSound.takeAbort {s : State} (hs : ConfigSound s) : ConfigSound s.takeAbort.1 := by
  unfold State.takeAbort
  split
  · exact hs.of_ended rfl rfl
  · exact hs

theorem Effect.configSound {s t : State} (hs : ConfigSound s) (h : Effect s t) : ConfigSound t := by
  cases h with
  | nothing | passTime | coalesce | append | addRecord | raiseFence | grantPowerUp | grantEntry | grantExit
  | grantRefresh | grantDrain | grantRead | grantFill | grantScrub | finishRefresh | finishEntry | ripen | scrubExpiry
  | warn | unwarn | resume | releaseReset | popLog | clearOverflow | clearCorrected | setMask | flip => exact hs
  | depart => exact hs.of_cfg (by rw [State.depart_frame])
  | finishRead => exact hs.of_cfg (by rw [State.finishRead_frame])
  | finishScrub => exact hs.of_cfg (by rw [State.finishScrub_frame])
  | finishFill => exact ConfigSound.advanceFill (s := s.finishWords.endCycle) hs
  | finishPowerUp => exact ConfigSound.afterModeOperation (s := s.endCycle.setCondition .active) hs
  | finishExit => exact ConfigSound.finishExit (s := s.endCycle.setCondition .active) hs
  | tick => exact hs.of_cfg State.tick_cfg
  | holdupExpiry => exact hs.of_cfg (by rw [State.expireHoldup_frame])
  | warnInRun => exact ConfigSound.enterHoldup (s := s.setPwarn true) hs
  | returnToRun => exact hs.of_cfg (by rw [State.returnToRun_frame]; rfl)
  | applyCommit hpending => exact ⟨hs.2 hpending, fun h => by cases h⟩
  | powerOn p => exact .of_reset (st := p.straps) rfl
  | externalReset st | maintenanceReset st => exact .of_reset (st := st) (by simp [State.setRst])
  | flush => exact hs.of_cfg (by rw [State.takeFlush_frame])
  | commit => exact hs.takeCommit
  | abort => exact hs.takeAbort
  | stage r v hpending => exact hs.of_ended rfl hpending

/-- Settles O11: the active set changes to a strap-derived set or to a staged set that passed the commit check, and a staged
set does not change while its commit is pending. -/
theorem stepKeepsConfigSound : Obligations.StepKeepsConfigSound :=
  step_keeps (fun h hs => hs.of_cfg h.cfg) Effect.configSound

end Sys2Proof.Machine

/-! # The posting queue

Every effect keeps the posting queue sound (R1 to R4): what it does to an entry in place, to the youngest end, and to the
head is said once, and so is how the WRITING head and the array write in flight stand and fall together. -/

namespace Sys2Proof.Machine

/-! ## The active set -/

theorem State.enterHoldup_active (s : State) : s.enterHoldup.cfg.active = s.cfg.active := by
  rw [State.enterHoldup_cfg]
  split <;> rfl

theorem State.becomeRun_active (s : State) : s.becomeRun.cfg.active = s.cfg.active := by
  have hrun : (s.setMode .run).startScrub.cfg.active = s.cfg.active := by rw [State.startScrub_cfg]; rfl
  unfold State.becomeRun
  dsimp only
  split
  · rw [State.enterHoldup_active, hrun]
  · exact hrun

theorem State.endInit_active (s : State) : s.endInit.cfg.active = s.cfg.active := by
  unfold State.endInit
  dsimp only
  split
  · rw [State.becomeRun_active]; rfl
  · rfl

theorem State.afterModeOperation_active (s : State) : s.afterModeOperation.cfg.active = s.cfg.active := by
  unfold State.afterModeOperation
  split
  · exact s.endInit_active
  · rfl

theorem State.finishExit_active (s : State) : s.finishExit.cfg.active = s.cfg.active := by
  unfold State.finishExit
  split
  · rw [State.becomeRun_active]; rfl
  · exact s.endInit_active
  all_goals rfl

theorem State.advanceFill_active (s : State) : s.advanceFill.cfg.active = s.cfg.active := by
  unfold State.advanceFill
  split
  · rfl
  · split
    · rfl
    · unfold State.endFill
      rw [State.becomeRun_active]

theorem State.takeCommit_active (s : State) : s.takeCommit.1.cfg.active = s.cfg.active := by
  unfold State.takeCommit
  split
  · rfl
  split
  · rfl
  split <;> rfl

theorem State.takeAbort_active (s : State) : s.takeAbort.1.cfg.active = s.cfg.active := by
  unfold State.takeAbort
  split <;> rfl

/-! ## FLUSH -/

/-- An entry as a FLUSH leaves it: marked and closed (R54). -/
def Entry.flushMarked (e : Entry) : Entry := { e with flushed := true, isOpen := false }

/-- A FLUSH finds the flush ACTIVE, the queue empty, or entries to mark (Table 3-5). -/
theorem State.takeFlush_cases (s : State) :
    s.takeFlush.1 = s ∨
    (s.ft.flush.active = false ∧ s.pq = [] ∧
      s.takeFlush.1 = { s with ft := { s.ft with flush := { s.ft.flush with complete := true } } }) ∨
    (s.ft.flush.active = false ∧ s.pq ≠ [] ∧
      s.takeFlush.1 =
        { s with
          pq := s.pq.map Entry.flushMarked
          ft := { s.ft with flush := { active := true, remaining := s.pq.length, complete := false } } }) := by
  unfold State.takeFlush
  split
  · exact .inl rfl
  rename_i ha
  rw [Bool.not_eq_true] at ha
  split
  · rename_i hpq
    exact .inr (.inl ⟨ha, List.isEmpty_iff.1 hpq, rfl⟩)
  · rename_i hpq
    exact .inr (.inr ⟨ha, fun h => hpq (List.isEmpty_iff.2 h), rfl⟩)

/-! ## Entries changed in place -/

/-- What an event may make of an entry in place: its line, source and state stay, a closed entry stays closed with its
mask, and an entry left open gains no mark. -/
structure Entry.Updated (e e' : Entry) : Prop where
  line : e'.line = e.line
  source : e'.source = e.source
  state : e'.state = e.state
  isOpen : e'.isOpen = true → e.isOpen = true ∧ e'.fenced = e.fenced ∧ e'.flushed = e.flushed
  mask : e.isOpen = false → e'.mask = e.mask
  held : e.mask ≠ 0 → e.data &&& ~~~maskBits e.mask = 0 → e'.mask ≠ 0 ∧ e'.data &&& ~~~maskBits e'.mask = 0

theorem Entry.Updated.refl (e : Entry) : e.Updated e :=
  ⟨rfl, rfl, rfl, fun h => ⟨h, rfl, rfl⟩, fun _ => rfl, fun h h' => ⟨h, h'⟩⟩

/-- An event that closes an entry, and marks it or not. -/
theorem Entry.Updated.closed (e : Entry) (fenced flushed : Bool) :
    e.Updated { e with isOpen := false, fenced := fenced, flushed := flushed } :=
  ⟨rfl, rfl, rfl, (fun h => nomatch h), fun _ => rfl, fun h h' => ⟨h, h'⟩⟩

theorem Entry.ripened_updated (e : Entry) (now : Time) : e.Updated (e.ripened now) := by
  unfold Entry.ripened
  split
  · exact ⟨rfl, rfl, rfl, fun h => ⟨h, rfl, rfl⟩, fun _ => rfl, fun h h' => ⟨h, h'⟩⟩
  · exact .refl e

theorem maskBits_or (m m' : ByteMask) : maskBits (m ||| m') = maskBits m ||| maskBits m' := by
  apply BitVec.eq_of_getLsbD_eq
  intro i hi
  rw [BitVec.getLsbD_or, maskBits_getLsbD _ _ hi, maskBits_getLsbD _ _ hi, maskBits_getLsbD _ _ hi, BitVec.getLsbD_or]

/-- Folding bytes into data leaves nothing outside the union of the masks. -/
theorem mergeBytes_outside {m m' : ByteMask} {d d' : LineData} (h : d &&& ~~~maskBits m = 0) :
    mergeBytes m' d' d &&& ~~~maskBits (m ||| m') = 0 := by
  rw [maskBits_or]
  unfold mergeBytes
  apply BitVec.eq_of_getLsbD_eq
  intro i hi
  have hd := congrArg (fun x => BitVec.getLsbD x i) h
  simp only [BitVec.getLsbD_and, BitVec.getLsbD_or, BitVec.getLsbD_not, hi, decide_true, Bool.true_and,
    BitVec.ofNat_eq_ofNat, BitVec.getLsbD_zero] at hd ⊢
  generalize d.getLsbD i = a at hd ⊢
  generalize (maskBits m).getLsbD i = b at hd ⊢
  generalize (maskBits m').getLsbD i = c
  generalize d'.getLsbD i = x
  revert hd
  revert a b c x
  decide

theorem or_ne_zero {m m' : ByteMask} (h : m ≠ 0) : m ||| m' ≠ 0 := by
  intro h0
  apply h
  apply BitVec.eq_of_getLsbD_eq
  intro i _
  have hi := congrArg (fun x => BitVec.getLsbD x i) h0
  simp only [BitVec.getLsbD_or, BitVec.ofNat_eq_ofNat, BitVec.getLsbD_zero, Bool.or_eq_false_iff] at hi
  rw [hi.1]
  simp

theorem Entry.coalesced_updated {e : Entry} {m : Request} (h : coalescesInto m e = true) : e.Updated (e.coalesced m) := by
  obtain ⟨hopen, -, -⟩ := (coalescesInto_iff m e).1 h
  refine ⟨rfl, rfl, rfl, fun h => ⟨h, rfl, rfl⟩, fun h => ?_, fun h h' => ⟨or_ne_zero h, mergeBytes_outside h'⟩⟩
  rw [hopen] at h
  cases h

theorem forall₂_map_updated {q : List Entry} {f : Entry → Entry} (h : ∀ e ∈ q, e.Updated (f e)) :
    List.Forall₂ Entry.Updated q (q.map f) := by
  rw [List.forall₂_map_right_iff, List.forall₂_same]
  exact h

theorem forall₂_modify_updated {f : Entry → Entry} (h : ∀ e : Entry, e.Updated (f e)) (q : List Entry) (i : Nat) :
    List.Forall₂ Entry.Updated q (q.modify i f) := by
  induction q generalizing i with
  | nil => simp
  | cons e q ih =>
    cases i with
    | zero => exact .cons (h e) (List.forall₂_same.2 fun x _ => .refl x)
    | succ i => exact .cons (.refl e) (ih i)

theorem exists_of_mem_of_forall₂ {R : Entry → Entry → Prop} {q q' : List Entry} (h : List.Forall₂ R q q') :
    ∀ e' ∈ q', ∃ e ∈ q, R e e' := by
  induction h with
  | nil => simp
  | cons hr _ ih =>
    intro e' he'
    rcases List.mem_cons.1 he' with rfl | he'
    · exact ⟨_, by simp, hr⟩
    · obtain ⟨e, he, hee⟩ := ih e' he'
      exact ⟨e, by simp [he], hee⟩

theorem forall₂_tail {R : Entry → Entry → Prop} {q q' : List Entry} (h : List.Forall₂ R q q') :
    List.Forall₂ R q.tail q'.tail := by
  cases h with
  | nil => exact .nil
  | cons _ hrest => exact hrest

/-- An open entry stays the youngest of its source. -/
theorem pairwise_open_of_updated {q q' : List Entry} (h : List.Forall₂ Entry.Updated q q')
    (hq : q.Pairwise fun older younger => older.source = younger.source → older.isOpen = false) :
    q'.Pairwise fun older younger => older.source = younger.source → older.isOpen = false := by
  induction h with
  | nil => exact .nil
  | cons hr hrest ih =>
    rw [List.pairwise_cons] at hq ⊢
    refine ⟨fun y' hy' hs => ?_, ih hq.2⟩
    obtain ⟨y, hy, hu⟩ := exists_of_mem_of_forall₂ hrest y' hy'
    have hclosed := hq.1 y hy (by rw [← hr.source, hs, hu.source])
    by_contra ho
    rw [Bool.not_eq_false] at ho
    rw [(hr.isOpen ho).1] at hclosed
    cases hclosed

/-! ## The WRITING head -/

/-- Without an array write in flight every entry is QUEUED. -/
theorem WriteInFlight.queued {s : State} (h : WriteInFlight s) (hc : ∀ c, s.seq.cycle = some c → c.isWrite = false) :
    ∀ e ∈ s.pq, e.state = .queued := by
  unfold WriteInFlight at h
  split at h
  · rename_i hw; cases hc _ hw
  · rename_i hw; cases hc _ hw
  · exact h

theorem WriteInFlight.of_queued {s : State} (hc : ∀ c, s.seq.cycle = some c → c.isWrite = false)
    (h : ∀ e ∈ s.pq, e.state = .queued) : WriteInFlight s := by
  unfold WriteInFlight
  split
  · rename_i hw; cases hc _ hw
  · rename_i hw; cases hc _ hw
  · exact h

/-- A change of the queue that keeps the head of an array write in flight, and the entries QUEUED where none is. -/
theorem WriteInFlight.of_head {s t : State} (h : WriteInFlight s) (hcycle : t.seq.cycle = s.seq.cycle)
    (hhead : ∀ r l b, HeadWritten s r l b → HeadWritten t r l b)
    (hqueued : (∀ e ∈ s.pq, e.state = .queued) → ∀ e ∈ t.pq, e.state = .queued) : WriteInFlight t := by
  unfold WriteInFlight at h ⊢
  rw [hcycle]
  revert h
  split
  · exact hhead _ _ _
  · exact hhead _ _ _
  · exact hqueued

/-! ## Sound queues -/

namespace QueueSound

variable {s t : State}

theorem of_same (hs : QueueSound s) (hpq : t.pq = s.pq) (hcycle : t.seq.cycle = s.seq.cycle)
    (hactive : t.cfg.active = s.cfg.active) : QueueSound t := by
  unfold QueueSound WriteInFlight HeadWritten
  rw [hpq, hcycle, hactive]
  exact hs

/-- An event that begins or ends a cycle that is no array write. -/
theorem of_other_cycle (hs : QueueSound s) (hpq : t.pq = s.pq) (hactive : t.cfg.active = s.cfg.active)
    (hbefore : ∀ c, s.seq.cycle = some c → c.isWrite = false) (hafter : ∀ c, t.seq.cycle = some c → c.isWrite = false) :
    QueueSound t := by
  obtain ⟨hlen, hheld, hopen, hpair, htail, hwrite⟩ := hs
  unfold QueueSound
  rw [hpq, hactive]
  exact ⟨hlen, hheld, hopen, hpair, htail, .of_queued hafter (by rw [hpq]; exact hwrite.queued hbefore)⟩

theorem begin_other {c : Cycle} (hs : QueueSound s) (hidle : s.seq.cycle = none) (hc : c.isWrite = false) :
    QueueSound (s.startCycle c) :=
  hs.of_other_cycle rfl rfl (fun d hd => by rw [hidle] at hd; cases hd) fun d hd => by cases hd; exact hc

theorem end_other {c : Cycle} (hs : QueueSound s) (hcycle : s.seq.cycle = some c) (hc : c.isWrite = false)
    (hpq : t.pq = s.pq) (hactive : t.cfg.active = s.cfg.active) (hidle : t.seq.cycle = none) : QueueSound t :=
  hs.of_other_cycle hpq hactive (fun d hd => by rw [hcycle] at hd; cases hd; exact hc)
    fun d hd => by rw [hidle] at hd; cases hd

/-- An empty queue and an idle SEQ. -/
theorem of_empty (hpq : t.pq = []) (hidle : t.seq.cycle = none) : QueueSound t := by
  unfold QueueSound
  rw [hpq]
  refine ⟨by simp, by simp, by simp, .nil, by simp, .of_queued (fun c hc => by rw [hidle] at hc; cases hc) ?_⟩
  rw [hpq]
  simp

/-- An event that changes entries in place. -/
theorem of_updated (hs : QueueSound s) (hq : List.Forall₂ Entry.Updated s.pq t.pq) (hcycle : t.seq.cycle = s.seq.cycle)
    (hactive : t.cfg.active = s.cfg.active) : QueueSound t := by
  obtain ⟨hlen, hheld, hopen, hpair, htail, hwrite⟩ := hs
  have hmem := exists_of_mem_of_forall₂ hq
  refine ⟨hq.length_eq ▸ hlen, fun e' he' => ?_, fun e' he' ho => ?_, pairwise_open_of_updated hq hpair, ?_, ?_⟩
  · obtain ⟨e, he, hu⟩ := hmem e' he'
    obtain ⟨hmask, hdata, hmapped⟩ := hheld e he
    rw [hactive, hu.line]
    exact ⟨(hu.held hmask hdata).1, (hu.held hmask hdata).2, hmapped⟩
  · obtain ⟨e, he, hu⟩ := hmem e' he'
    obtain ⟨hwas, hfenced, hflushed⟩ := hu.isOpen ho
    rw [hu.state, hfenced, hflushed]
    exact hopen e he hwas
  · intro e' he'
    obtain ⟨e, he, hu⟩ := exists_of_mem_of_forall₂ (forall₂_tail hq) e' he'
    rw [hu.state]
    exact htail e he
  · refine hwrite.of_head hcycle (fun r l b hw => ?_) fun hall e' he' => ?_
    · obtain ⟨e, he, hstate, hrank, hline, hpart⟩ := hw
      have hmem : e ∈ s.pq := List.mem_of_mem_head? he
      have hclosed : e.isOpen = false := by
        by_contra ho
        rw [Bool.not_eq_false] at ho
        have := (hopen e hmem ho).1
        rw [hstate] at this
        cases this
      cases hp : s.pq with
      | nil => rw [hp] at he; cases he
      | cons x rest =>
        rw [hp] at he hq
        cases he
        cases hp' : t.pq with
        | nil => rw [hp'] at hq; cases hq
        | cons x' rest' =>
          rw [hp'] at hq
          obtain ⟨hu, -⟩ := List.forall₂_cons.1 hq
          refine ⟨x', by rw [hp']; rfl, ?_⟩
          rw [hu.state, hu.line, hu.mask hclosed, hactive]
          exact ⟨hstate, hrank, hline, hpart⟩
    · obtain ⟨e, he, hu⟩ := hmem e' he'
      rw [hu.state]
      exact hall e he

/-- A new open entry at the youngest end, where every other entry of its source is closed. -/
theorem push (hs : QueueSound s) (n : Entry) (hroom : s.pq.length < 16) (hmask : n.mask ≠ 0)
    (hdata : n.data &&& ~~~maskBits n.mask = 0) (hline : s.cfg.active.mapped n.line = true) (hqueued : n.state = .queued)
    (hmarks : n.fenced = false ∧ n.flushed = false) (hclosed : ∀ e ∈ s.pq, e.source = n.source → e.isOpen = false) :
    QueueSound { s with pq := s.pq ++ [n] } := by
  obtain ⟨hlen, hheld, hopen, hpair, htail, hwrite⟩ := hs
  refine ⟨by simp; omega, fun e he => ?_, fun e he ho => ?_, ?_, fun e he => ?_, ?_⟩
  · rcases List.mem_append.1 he with he | he
    · exact hheld e he
    · rw [List.mem_singleton.1 he]
      exact ⟨hmask, hdata, hline⟩
  · rcases List.mem_append.1 he with he | he
    · exact hopen e he ho
    · rw [List.mem_singleton.1 he]
      exact ⟨hqueued, hmarks.1, hmarks.2⟩
  · rw [List.pairwise_append]
    refine ⟨hpair, by simp, fun a ha b hb => ?_⟩
    rw [List.mem_singleton.1 hb]
    exact hclosed a ha
  · have hsub : e ∈ s.pq.tail ++ [n] := by
      cases hp : s.pq with
      | nil => simp [hp] at he
      | cons x rest => simpa [hp] using he
    rcases List.mem_append.1 hsub with he | he
    · exact htail e he
    · rw [List.mem_singleton.1 he]
      exact hqueued
  · refine hwrite.of_head rfl (fun r l b hw => ?_) fun hall e he => ?_
    · obtain ⟨e, he, hw⟩ := hw
      refine ⟨e, ?_, hw⟩
      cases hp : s.pq with
      | nil => rw [hp] at he; cases he
      | cons x rest => rw [hp] at he; exact he
    · rcases List.mem_append.1 he with he | he
      · exact hall e he
      · rw [List.mem_singleton.1 he]
        exact hqueued

theorem append (hs : QueueSound s) (m : Request) (hmask : m.mask ≠ 0) (hline : s.cfg.active.mapped m.line = true)
    (hroom : s.pq.length < 16) : QueueSound (s.append m) := by
  have hclosed : QueueSound { s with pq := s.pq.map fun e => if e.source = m.source then e.close else e } := by
    refine hs.of_updated (forall₂_map_updated fun e _ => ?_) rfl rfl
    split
    · exact .closed e e.fenced e.flushed
    · exact .refl e
  refine hclosed.push (newEntry m s.cfg.active.ageTime s.now) (by simpa using hroom) hmask ?_ hline rfl ⟨rfl, rfl⟩ ?_
  · show m.data &&& maskBits m.mask &&& ~~~maskBits m.mask = 0
    rw [BitVec.and_assoc]
    simp
  · intro e he hsource
    obtain ⟨x, -, rfl⟩ := List.mem_map.1 he
    by_cases hx : x.source = m.source
    · simp [hx, Entry.close]
    · rw [if_neg hx] at hsource
      exact absurd hsource hx

theorem coalesce (hs : QueueSound s) (m : Request) : QueueSound (s.coalesce m) := by
  refine hs.of_updated (forall₂_map_updated fun e _ => ?_) rfl rfl
  split
  · exact Entry.coalesced_updated (by assumption)
  · exact .refl e

theorem raiseFence (hs : QueueSound s) (m : Request) : QueueSound (s.raiseFence m) := by
  refine hs.of_updated (forall₂_map_updated fun e _ => ?_) rfl rfl
  split
  · exact .closed e true e.flushed
  · exact .refl e

theorem takeFlush (hs : QueueSound s) : QueueSound s.takeFlush.1 := by
  rcases s.takeFlush_cases with h | ⟨-, -, h⟩ | ⟨-, -, h⟩ <;> rw [h]
  · exact hs
  · exact hs
  · exact hs.of_updated (forall₂_map_updated fun e _ => .closed e e.fenced true) rfl rfl

/-- The grant of the drain claim makes the head WRITING and begins its array write (R16). -/
theorem grantDrain (hs : QueueSound s) {e : Entry} {rest : List Entry} {r : Rank}
    (hpq : s.pq = e :: rest) (hrank : s.cfg.active.rankOf e.line = some r) :
    QueueSound ({ s with pq := e.granted :: rest }.startCycle (e.drainCycle r (s.cfg.active.rankLine r e.line))) := by
  obtain ⟨hlen, hheld, hopen, hpair, htail, -⟩ := hs
  rw [hpq] at hlen hheld hopen hpair htail
  obtain ⟨hhead, hrest⟩ := List.pairwise_cons.1 hpair
  have hwritten : ∀ b, hasPartialWord e.mask = b → HeadWritten
      ({ s with pq := e.granted :: rest }.startCycle (e.drainCycle r (s.cfg.active.rankLine r e.line)))
      r (s.cfg.active.rankLine r e.line) b := fun b hb => ⟨e.granted, rfl, rfl, hrank, rfl, hb⟩
  refine ⟨hlen, ?_, ?_, List.pairwise_cons.2 ⟨fun _ _ _ => rfl, hrest⟩, htail, ?_⟩
  · intro x hx
    rcases List.mem_cons.1 hx with rfl | hx
    · exact hheld e (by simp)
    · exact hheld x (by simp [hx])
  · intro x hx ho
    rcases List.mem_cons.1 hx with rfl | hx
    · cases ho
    · exact hopen x (by simp [hx]) ho
  · unfold WriteInFlight
    cases hb : hasPartialWord e.mask with
    | true =>
      have hc : e.drainCycle r (s.cfg.active.rankLine r e.line) = .mergeWrite r (s.cfg.active.rankLine r e.line) := if_pos hb
      simp only [State.startCycle, hc]
      rw [hc] at hwritten
      exact hwritten true hb
    | false =>
      have hc : e.drainCycle r (s.cfg.active.rankLine r e.line) = .plainWrite r (s.cfg.active.rankLine r e.line) :=
        if_neg (by rw [hb]; decide)
      simp only [State.startCycle, hc]
      rw [hc] at hwritten
      exact hwritten false hb

/-- The departure of the head leaves QUEUED entries alone, and an idle SEQ. -/
theorem depart (hs : QueueSound s) {e : Entry} {rest : List Entry} {r : Rank} {l : RankLine}
    (hhead : WritingHead s e rest r l) : QueueSound (s.depart e rest r l) := by
  obtain ⟨hpq, -, -⟩ := hhead
  obtain ⟨hlen, hheld, hopen, hpair, htail, -⟩ := hs
  rw [hpq] at hlen hheld hopen hpair htail
  rw [State.depart_frame]
  refine ⟨?_, fun x hx => hheld x (by simp [hx]), fun x hx => hopen x (by simp [hx]), (List.pairwise_cons.1 hpair).2,
    fun x hx => htail x (List.mem_of_mem_tail hx), .of_queued (fun c hc => by cases hc) htail⟩
  simp only [List.length_cons] at hlen ⊢
  omega

/-- The hold-up expiry leaves the WRITING head, if any, alone in the queue. -/
theorem expireHoldup (hs : QueueSound s) : QueueSound s.expireHoldup := by
  obtain ⟨hlen, hheld, hopen, hpair, htail, hwrite⟩ := hs
  have hfilter : (s.pq.filter Entry.isWriting).tail = [] := by
    cases hp : s.pq with
    | nil => rfl
    | cons e rest =>
      have hrest : rest.filter Entry.isWriting = [] := by
        rw [List.filter_eq_nil_iff]
        intro x hx
        simp [Entry.isWriting, htail x (by rw [hp]; exact hx)]
      rw [List.filter_cons, hrest]
      split <;> rfl
  rw [State.expireHoldup_frame]
  refine ⟨(List.length_filter_le _ _).trans hlen, fun x hx => hheld x (List.mem_of_mem_filter hx),
    fun x hx => hopen x (List.mem_of_mem_filter hx), hpair.filter _, fun x hx => ?_, ?_⟩
  · change x ∈ (s.pq.filter Entry.isWriting).tail at hx
    rw [hfilter] at hx
    cases hx
  · refine hwrite.of_head rfl (fun r l b hw => ?_) fun hall x hx => hall x (List.mem_of_mem_filter hx)
    obtain ⟨e, he, hstate, hw⟩ := hw
    refine ⟨e, ?_, hstate, hw⟩
    cases hp : s.pq with
    | nil => rw [hp] at he; cases he
    | cons x rest =>
      rw [hp] at he
      cases he
      simp [Entry.isWriting, hstate]

end QueueSound

theorem Effect.queueSound {s t : State} (hs : QueueSound s) (h : Effect s t) : QueueSound t := by
  cases h with
  | nothing | passTime | addRecord | scrubExpiry | warn | unwarn | resume | releaseReset | popLog | clearOverflow
  | clearCorrected | setMask | stage | flip => exact hs
  | coalesce m => exact hs.coalesce m
  | append m _ hmask hline hroom => exact hs.append m hmask hline hroom
  | raiseFence m => exact hs.raiseFence m
  | grantPowerUp hidle | grantEntry hidle | grantExit hidle => exact QueueSound.begin_other hs hidle rfl
  | grantRefresh n hwork | grantFill hwork | grantScrub hwork => exact QueueSound.begin_other hs hwork.idle rfl
  | grantRead _ _ _ _ hwork => exact QueueSound.begin_other hs hwork.idle rfl
  | grantDrain e rest r _ hpq hrank => exact hs.grantDrain hpq hrank
  | depart e rest r l hhead => exact hs.depart hhead
  | finishRead x r l hcycle =>
    rw [State.finishRead_frame]
    exact hs.end_other hcycle rfl rfl rfl rfl
  | finishRefresh n hcycle => exact hs.end_other hcycle rfl rfl rfl rfl
  | finishScrub r l hcycle =>
    rw [State.finishScrub_frame]
    exact hs.end_other hcycle rfl rfl rfl rfl
  | finishFill r l hcycle =>
    exact hs.end_other hcycle rfl (by rw [State.advanceFill_frame]; rfl) (State.advanceFill_active _)
      (by rw [State.advanceFill_frame]; rfl)
  | finishPowerUp hcycle =>
    exact hs.end_other hcycle rfl (by rw [State.afterModeOperation_frame]; rfl) (State.afterModeOperation_active _)
      (by rw [State.afterModeOperation_frame]; rfl)
  | finishEntry hcycle => exact hs.end_other hcycle rfl rfl rfl rfl
  | finishExit hcycle =>
    exact hs.end_other hcycle rfl (by rw [State.finishExit_frame]; rfl) (State.finishExit_active _)
      (by rw [State.finishExit_frame]; rfl)
  | ripen i => exact hs.of_updated (forall₂_modify_updated (fun e => e.ripened_updated _) _ _) rfl rfl
  | tick => rw [State.tick_eq]; exact hs
  | holdupExpiry => exact hs.expireHoldup
  | warnInRun =>
    exact hs.of_same (by rw [State.enterHoldup_frame]; rfl) (by rw [State.enterHoldup_frame]; rfl)
      (State.enterHoldup_active _)
  | returnToRun => rw [State.returnToRun_frame]; exact hs
  | applyCommit _ hquiet =>
    simp only [State.quiet, Bool.and_eq_true, List.isEmpty_iff, State.idle, Option.isNone_iff_eq_none] at hquiet
    obtain ⟨⟨⟨hpq, -⟩, -⟩, hidle⟩ := hquiet
    exact .of_empty hpq hidle
  | powerOn | externalReset | maintenanceReset => exact .of_empty (by simp [State.setRst]) (by simp [State.setRst])
  | flush => exact hs.takeFlush
  | commit => exact hs.of_same (by rw [State.takeCommit_frame]) (by rw [State.takeCommit_frame]) s.takeCommit_active
  | abort => exact hs.of_same (by rw [State.takeAbort_frame]) (by rw [State.takeAbort_frame]) s.takeAbort_active

/-- Settles O5: each effect on the queue changes entries in place, adds at the youngest end, or takes the head with its
array write. -/
theorem stepKeepsQueueSound : Obligations.StepKeepsQueueSound :=
  step_keeps (fun h hs => hs.of_same h.pq (by rw [h.seq]) (by rw [h.cfg])) Effect.queueSound

end Sys2Proof.Machine

/-! # The fence table

Every effect keeps the fence rows and the flush counting exactly the marked entries (R47, R53): a report takes one entry
from what a row and the flush still count, and nothing else that changes a mark leaves its count behind. -/

namespace Sys2Proof.Machine

/-! ## Counts over the queue -/

theorem countP_map_of_same {p : Entry → Bool} {f : Entry → Entry} (h : ∀ e, p (f e) = p e) (q : List Entry) :
    (q.map f).countP p = q.countP p := by
  rw [List.countP_map]
  exact congrArg (fun g => List.countP g q) (funext h)

theorem countP_modify_of_same {p : Entry → Bool} {f : Entry → Entry} (h : ∀ e, p (f e) = p e) (q : List Entry) (i : Nat) :
    (q.modify i f).countP p = q.countP p := by
  induction q generalizing i with
  | nil => simp
  | cons e q ih =>
    cases i with
    | zero => simp [List.countP_cons, h]
    | succ i => simp [List.countP_cons, ih]

/-! ## What the rows and the flush count -/

/-- The rows count `fenced src` entries of each source, and the flush `flushed` entries. -/
def FenceTable.Counts (ft : FenceTable) (fenced : Source → Nat) (flushed : Nat) : Prop :=
  (∀ src : Source, RowSound ft.rows[src] (fenced src)) ∧
    ft.flush.remaining = flushed ∧ ft.flush.active = decide (1 ≤ flushed)

theorem FenceRow.counted_sound {row : FenceRow} {n : Nat} (h : RowSound row (n + 1)) (r : Report) :
    RowSound (row.counted r) n := by
  cases row with
  | free => cases h
  | pending f =>
    obtain ⟨hrem, -⟩ := h
    have hn : (f.counted r).remaining = n := by simp [PendingFence.counted, hrem]
    unfold FenceRow.counted
    dsimp only
    rw [hn]
    split
    · assumption
    · exact ⟨hn, by omega⟩

theorem Flush.counted_sound {f : Flush} {k : Nat} (hrem : f.remaining = k + 1) (hactive : f.active = true) :
    f.counted.remaining = k ∧ f.counted.active = decide (1 ≤ k) := by
  unfold Flush.counted
  rw [if_pos hactive]
  split
  · have : k = 0 := by omega
    subst this
    exact ⟨rfl, rfl⟩
  · refine ⟨by simp [hrem], ?_⟩
    have : 1 ≤ k := by omega
    simp [hactive, this]

/-- A report leaves the row of its source, and the flush, counting one entry less, if it carries their mark. -/
theorem FenceTable.Counts.report {s : State} {r : Report} {fenced : Source → Nat} {flushed : Nat}
    (h : s.ft.Counts (fun src => fenced src + if r.source = src ∧ r.fenced = true then 1 else 0)
      (flushed + if r.flushed = true then 1 else 0)) : (s.report r).ft.Counts fenced flushed := by
  obtain ⟨hrows, hrem, hactive⟩ := h
  refine ⟨fun src => ?_, ?_⟩
  · have hrow := hrows src
    unfold State.report
    dsimp only at hrow ⊢
    by_cases hf : r.fenced = true
    · rw [if_pos hf]
      by_cases hsrc : r.source = src
      · subst hsrc
        rw [if_pos ⟨rfl, hf⟩] at hrow
        simpa using FenceRow.counted_sound hrow r
      · rw [if_neg (fun hc => hsrc hc.1)] at hrow
        have hne : (r.source : Nat) ≠ src := Fin.val_ne_of_ne hsrc
        simpa [Vector.getElem_set_ne _ _ hne] using hrow
    · rw [if_neg hf]
      rw [if_neg (fun hc => hf hc.2)] at hrow
      exact hrow
  · unfold State.report
    dsimp only
    by_cases hf : r.flushed = true
    · rw [if_pos hf] at hrem hactive ⊢
      exact Flush.counted_sound hrem (by rw [hactive]; simp)
    · rw [if_neg hf] at hrem hactive ⊢
      exact ⟨hrem, hactive⟩

/-- The entries of a source that are marked fenced, as `State.fencedOf` counts them. -/
def fencedIn (q : List Entry) (src : Source) : Nat := q.countP fun e => e.source == src && e.fenced

/-- The entries that are marked flushed, as `State.flushedCount` counts them. -/
def flushedIn (q : List Entry) : Nat := q.countP fun e => e.flushed

theorem fencedIn_cons (e : Entry) (q : List Entry) (src : Source) :
    fencedIn (e :: q) src = fencedIn q src + if e.source = src ∧ e.fenced = true then 1 else 0 := by
  simp [fencedIn, List.countP_cons]

theorem flushedIn_cons (e : Entry) (q : List Entry) :
    flushedIn (e :: q) = flushedIn q + if e.flushed = true then 1 else 0 := by
  simp [flushedIn, List.countP_cons]

/-- The discards of a list of entries leave the rows and the flush counting the others. -/
theorem FenceTable.Counts.discards {es : List Entry} {s : State} {fenced : Source → Nat} {flushed : Nat}
    (h : s.ft.Counts (fun src => fenced src + fencedIn es src) (flushed + flushedIn es)) :
    (es.foldl (fun t e => t.report e.discardReport) s).ft.Counts fenced flushed := by
  induction es generalizing s with
  | nil => exact h
  | cons e es ih =>
    rw [List.foldl_cons]
    refine ih (.report ?_)
    simp only [fencedIn_cons, flushedIn_cons, ← Nat.add_assoc] at h
    exact h

/-! ## Sound fence tables -/

namespace FenceSound

variable {s t : State}

theorem of_counts (hs : FenceSound s) (hft : t.ft = s.ft) (hfenced : ∀ src, t.fencedOf src = s.fencedOf src)
    (hflushed : t.flushedCount = s.flushedCount) : FenceSound t := by
  unfold FenceSound
  rw [hft, hflushed]
  obtain ⟨hrows, hflush⟩ := hs
  exact ⟨fun src => by rw [hfenced]; exact hrows src, hflush⟩

theorem of_same (hs : FenceSound s) (hft : t.ft = s.ft) (hpq : t.pq = s.pq) : FenceSound t :=
  hs.of_counts hft (fun src => by rw [State.fencedOf, hpq, State.fencedOf])
    (by rw [State.flushedCount, hpq, State.flushedCount])

/-- A reset leaves no entry, no fence and no flush. -/
theorem of_reset (hpq : t.pq = []) (hft : t.ft = fenceTableAtReset) : FenceSound t := by
  unfold FenceSound State.fencedOf State.flushedCount
  rw [hpq, hft]
  refine ⟨fun src => ?_, rfl, rfl⟩
  simp only [fenceTableAtReset, Fin.getElem_fin, Vector.getElem_replicate]
  rfl

theorem coalesce (hs : FenceSound s) (m : Request) : FenceSound (s.coalesce m) :=
  hs.of_counts rfl (fun _ => countP_map_of_same (fun e => by split <;> rfl) _)
    (countP_map_of_same (fun e => by split <;> rfl) _)

theorem append (hs : FenceSound s) (m : Request) : FenceSound (s.append m) := by
  refine hs.of_counts rfl (fun src => ?_) ?_
  · unfold State.fencedOf State.append
    rw [List.countP_append, countP_map_of_same fun e => by split <;> rfl]
    simp [newEntry]
  · unfold State.flushedCount State.append
    rw [List.countP_append, countP_map_of_same fun e => by split <;> rfl]
    simp [newEntry]

/-- A FENCE that is taken makes its row count every entry of its source, all of them now fenced (R47). -/
theorem raiseFence (hs : FenceSound s) (m : Request) (hsome : s.entriesOf m.source ≠ 0) : FenceSound (s.raiseFence m) := by
  obtain ⟨hrows, hflush⟩ := hs
  have hcount : (s.raiseFence m).flushedCount = s.flushedCount := countP_map_of_same (fun e => by split <;> rfl) _
  refine ⟨fun src => ?_, by rw [hcount]; exact hflush⟩
  by_cases hsrc : src = m.source
  · subst hsrc
    have hall : (s.raiseFence m).fencedOf m.source = s.entriesOf m.source := by
      unfold State.fencedOf State.raiseFence State.entriesOf
      rw [List.countP_map]
      refine congrArg (fun g => List.countP g s.pq) (funext fun e => ?_)
      by_cases he : e.source = m.source <;> simp [he]
    rw [hall]
    simp only [State.raiseFence, Fin.getElem_fin, Vector.getElem_set_self, newFence]
    exact ⟨rfl, Nat.one_le_iff_ne_zero.2 hsome⟩
  · have hother : (s.raiseFence m).fencedOf src = s.fencedOf src := by
      refine countP_map_of_same (fun e => ?_) _
      by_cases he : e.source = m.source
      · have : ¬m.source = src := fun h => hsrc h.symm
        simp [he, this]
      · simp [he]
    have hne : (m.source : Nat) ≠ src := Fin.val_ne_of_ne (Ne.symm hsrc)
    rw [hother]
    simpa [State.raiseFence, Vector.getElem_set_ne _ _ hne] using hrows src

theorem takeFlush (hs : FenceSound s) : FenceSound s.takeFlush.1 := by
  obtain ⟨hrows, hrem, hactive⟩ := hs
  rcases s.takeFlush_cases with h | ⟨-, -, h⟩ | ⟨-, hpq, h⟩ <;> rw [h]
  · exact ⟨hrows, hrem, hactive⟩
  · exact ⟨hrows, hrem, hactive⟩
  · have hall : (s.pq.map Entry.flushMarked).countP (fun e => e.flushed) = s.pq.length := by
      rw [List.countP_map, List.countP_eq_length]
      exact fun e _ => rfl
    have hpos : 1 ≤ s.pq.length := List.length_pos_iff.2 hpq
    refine ⟨fun src => ?_, hall.symm, ?_⟩
    · have hsame : (s.pq.map Entry.flushMarked).countP (fun e => e.source == src && e.fenced) = s.fencedOf src :=
        countP_map_of_same (f := Entry.flushMarked) (fun _ => rfl) _
      unfold State.fencedOf
      rw [hsame]
      exact hrows src
    · unfold State.flushedCount
      rw [hall]
      simp [hpos]

theorem grantDrain (hs : FenceSound s) {e : Entry} {rest : List Entry} (hpq : s.pq = e :: rest) (c : Cycle) :
    FenceSound ({ s with pq := e.granted :: rest }.startCycle c) := by
  refine hs.of_counts rfl (fun src => ?_) ?_
  · simp only [State.fencedOf, hpq, State.startCycle, List.countP_cons]
    rfl
  · simp only [State.flushedCount, hpq, State.startCycle, List.countP_cons]
    rfl

theorem depart (hs : FenceSound s) {e : Entry} {rest : List Entry} {r : Rank} {l : RankLine} (hpq : s.pq = e :: rest) :
    FenceSound (s.depart e rest r l) := by
  have hbefore : s.ft.Counts (fencedIn (e :: rest)) (flushedIn (e :: rest)) := by
    rw [← hpq]
    exact hs
  simp only [funext (fencedIn_cons e rest), flushedIn_cons] at hbefore
  have hafter : (s.depart e rest r l).ft.Counts (fencedIn rest) (flushedIn rest) := by
    unfold State.depart
    refine .report ?_
    simp only [State.endCycle_ft, State.addCorrected_ft, State.faultIf_ft, State.finishWords_ft, Entry.departureReport]
    exact hbefore
  rw [State.depart_frame]
  rw [State.depart_frame] at hafter
  exact hafter

/-- The hold-up expiry leaves the rows and the flush counting the WRITING head alone. -/
theorem expireHoldup (hs : FenceSound s) : FenceSound s.expireHoldup := by
  have hsplit : ∀ p : Entry → Bool, s.pq.countP p =
      (s.pq.filter Entry.isWriting).countP p + (s.pq.filter fun e => !e.isWriting).countP p := by
    intro p
    rw [List.countP_eq_countP_filter_add s.pq p Entry.isWriting]
  have hbefore : s.ft.Counts
      (fun src => fencedIn (s.pq.filter Entry.isWriting) src + fencedIn (s.pq.filter fun e => !e.isWriting) src)
      (flushedIn (s.pq.filter Entry.isWriting) + flushedIn (s.pq.filter fun e => !e.isWriting)) := by
    unfold fencedIn flushedIn
    simp only [← hsplit]
    exact hs
  have hafter : s.discardQueued.ft.Counts (fencedIn (s.pq.filter Entry.isWriting))
      (flushedIn (s.pq.filter Entry.isWriting)) := by
    unfold State.discardQueued
    exact .discards (s := { s with pq := s.pq.filter Entry.isWriting }) hbefore
  rw [State.expireHoldup_frame]
  exact hafter

end FenceSound

theorem Effect.fenceSound {s t : State} (hs : FenceSound s) (h : Effect s t) : FenceSound t := by
  cases h with
  | nothing | passTime | addRecord | grantPowerUp | grantEntry | grantExit | grantRefresh | grantRead | grantFill
  | grantScrub | finishRefresh | finishEntry | scrubExpiry | warn | unwarn | resume | applyCommit | releaseReset | popLog
  | clearOverflow | clearCorrected | setMask | stage | flip => exact hs
  | coalesce m => exact hs.coalesce m
  | append m => exact hs.append m
  | raiseFence m _ _ _ hsome => exact hs.raiseFence m hsome
  | grantDrain e rest r _ hpq => exact hs.grantDrain hpq _
  | depart e rest r l hhead => exact hs.depart hhead.1
  | finishRead => rw [State.finishRead_frame]; exact hs
  | finishScrub => rw [State.finishScrub_frame]; exact hs
  | finishFill => rw [State.advanceFill_frame]; exact hs
  | finishPowerUp => rw [State.afterModeOperation_frame]; exact hs
  | finishExit => rw [State.finishExit_frame]; exact hs
  | ripen i =>
    have hmarks : ∀ (e : Entry) (now : Time), (e.ripened now).source = e.source ∧ (e.ripened now).fenced = e.fenced ∧
        (e.ripened now).flushed = e.flushed := by
      intro e now
      unfold Entry.ripened
      split <;> exact ⟨rfl, rfl, rfl⟩
    exact hs.of_counts rfl
      (fun _ => countP_modify_of_same (fun e => by rw [(hmarks e s.now).1, (hmarks e s.now).2.1]) _ _)
      (countP_modify_of_same (fun e => (hmarks e s.now).2.2) _ _)
  | tick => rw [State.tick_eq]; exact hs
  | holdupExpiry => exact hs.expireHoldup
  | warnInRun => rw [State.enterHoldup_frame]; exact hs
  | returnToRun => rw [State.returnToRun_frame]; exact hs
  | powerOn | externalReset | maintenanceReset => exact .of_reset (by simp [State.setRst]) (by simp [State.setRst])
  | flush => exact hs.takeFlush
  | commit => rw [State.takeCommit_frame]; exact hs
  | abort => rw [State.takeAbort_frame]; exact hs

/-- Settles O6: a mark is set where its count starts, and an entry leaves the queue with a report that counts it. -/
theorem stepKeepsFenceSound : Obligations.StepKeepsFenceSound :=
  step_keeps (fun h hs => hs.of_same h.ft h.pq) Effect.fenceSound

end Sys2Proof.Machine

/-! # The read table

Every effect keeps the read table sound (R25, R26, R29): a record comes with a pair that nothing holds, a fence raises a
row under such a pair and no count changes a row's tag, and the READING record and its LINE READ come and go together. -/

namespace Sys2Proof.Machine

/-! ## Held tags -/

theorem FenceRow.holdsTag_false_iff (row : FenceRow) (t : Tag) :
    row.holdsTag t = false ↔ ¬∃ f, row = .pending f ∧ f.tag = t := by
  cases row <;> simp [FenceRow.holdsTag]

theorem not_pairHeld_iff (s : State) (src : Source) (t : Tag) :
    ¬PairHeld s src t ↔ (∀ x ∈ s.rt, ¬(x.source = src ∧ x.tag = t)) ∧ s.ft.rows[src].holdsTag t = false := by
  rw [FenceRow.holdsTag_false_iff, PairHeld, not_or]
  simp only [not_exists, not_and]

/-- A report frees rows and lowers counts, so it lets no row hold a tag that it did not hold. -/
theorem FenceRow.holdsTag_counted {row : FenceRow} {t : Tag} (h : row.holdsTag t = false) (r : Report) :
    (row.counted r).holdsTag t = false := by
  cases row with
  | free => rfl
  | pending f =>
    unfold FenceRow.counted
    dsimp only
    split
    · rfl
    · exact h

theorem State.report_holdsTag {s : State} {src : Source} {t : Tag} (h : s.ft.rows[src].holdsTag t = false) (r : Report) :
    (s.report r).ft.rows[src].holdsTag t = false := by
  unfold State.report
  dsimp only
  split
  · by_cases hsrc : r.source = src
    · subst hsrc
      simpa using FenceRow.holdsTag_counted h r
    · have hne : (r.source : Nat) ≠ src := Fin.val_ne_of_ne hsrc
      simpa [Vector.getElem_set_ne _ _ hne] using h
  · exact h

theorem State.discards_holdsTag {es : List Entry} {s : State} {src : Source} {t : Tag}
    (h : s.ft.rows[src].holdsTag t = false) :
    (es.foldl (fun t e => t.report e.discardReport) s).ft.rows[src].holdsTag t = false := by
  induction es generalizing s with
  | nil => exact h
  | cons e es ih => exact ih (State.report_holdsTag h _)

/-! ## Sound read tables -/

theorem ReadInFlight.waiting {s : State} (h : ReadInFlight s) (hc : ∀ r l, s.seq.cycle ≠ some (.lineRead r l)) :
    ∀ x ∈ s.rt, x.state = .waiting := by
  unfold ReadInFlight at h
  split at h
  · rename_i hr; exact absurd hr (hc _ _)
  · exact h

theorem ReadInFlight.of_waiting {s : State} (hc : ∀ r l, s.seq.cycle ≠ some (.lineRead r l))
    (h : ∀ x ∈ s.rt, x.state = .waiting) : ReadInFlight s := by
  unfold ReadInFlight
  split
  · rename_i hr; exact absurd hr (hc _ _)
  · exact h

/-- A change of the table that keeps the READING record at its head, and the records WAITING where no LINE READ is in
flight. -/
theorem ReadInFlight.of_head {s t : State} (h : ReadInFlight s) (hcycle : t.seq.cycle = s.seq.cycle)
    (hactive : t.cfg.active = s.cfg.active) (hhead : ∀ x ∈ s.rt.head?, x.state = .reading → x ∈ t.rt.head?)
    (hwaiting : (∀ x ∈ s.rt, x.state = .waiting) → ∀ x ∈ t.rt, x.state = .waiting) : ReadInFlight t := by
  unfold ReadInFlight at h ⊢
  rw [hcycle, hactive]
  revert h
  split
  · rintro ⟨x, hx, hstate, hline⟩
    exact ⟨x, hhead x hx hstate, hstate, hline⟩
  · exact hwaiting

/-- Every tag that no row held is still held by none. -/
def RowsHoldNoMore (s t : State) : Prop :=
  ∀ (src : Source) (tag : Tag), s.ft.rows[src].holdsTag tag = false → t.ft.rows[src].holdsTag tag = false

theorem RowsHoldNoMore.of_rows {s t : State} (h : t.ft.rows = s.ft.rows) : RowsHoldNoMore s t :=
  fun src tag hn => by rw [h]; exact hn

namespace ReadTableSound

variable {s t : State}

theorem of_same (hs : ReadTableSound s) (hrt : t.rt = s.rt) (hrows : RowsHoldNoMore s t)
    (hcycle : t.seq.cycle = s.seq.cycle) (hactive : t.cfg.active = s.cfg.active) : ReadTableSound t := by
  obtain ⟨hlen, hpair, hheld, htail, hread⟩ := hs
  unfold ReadTableSound ReadInFlight
  rw [hrt, hcycle, hactive]
  exact ⟨hlen, hpair, fun x hx => ⟨hrows _ _ (hheld x hx).1, (hheld x hx).2⟩, htail, hread⟩

/-- An event that begins or ends a cycle that is no LINE READ. -/
theorem of_other_cycle (hs : ReadTableSound s) (hrt : t.rt = s.rt) (hrows : RowsHoldNoMore s t)
    (hactive : t.cfg.active = s.cfg.active) (hbefore : ∀ r l, s.seq.cycle ≠ some (.lineRead r l))
    (hafter : ∀ r l, t.seq.cycle ≠ some (.lineRead r l)) : ReadTableSound t := by
  obtain ⟨hlen, hpair, hheld, htail, hread⟩ := hs
  unfold ReadTableSound
  rw [hrt, hactive]
  exact ⟨hlen, hpair, fun x hx => ⟨hrows _ _ (hheld x hx).1, (hheld x hx).2⟩, htail,
    .of_waiting hafter (by rw [hrt]; exact hread.waiting hbefore)⟩

theorem begin_other {c : Cycle} (hs : ReadTableSound s) (hidle : s.seq.cycle = none) (hc : ∀ r l, c ≠ .lineRead r l) :
    ReadTableSound (s.startCycle c) :=
  hs.of_other_cycle rfl (.of_rows rfl) rfl (by simp [hidle]) fun r l h => hc r l (Option.some.inj h)

theorem end_other {c : Cycle} (hs : ReadTableSound s) (hcycle : s.seq.cycle = some c) (hc : ∀ r l, c ≠ .lineRead r l)
    (hrt : t.rt = s.rt) (hrows : RowsHoldNoMore s t) (hactive : t.cfg.active = s.cfg.active)
    (hidle : t.seq.cycle = none) : ReadTableSound t :=
  hs.of_other_cycle hrt hrows hactive (fun r l h => hc r l (Option.some.inj (hcycle.symm.trans h))) (by simp [hidle])

/-- An empty table and an idle SEQ. -/
theorem of_empty (hrt : t.rt = []) (hidle : t.seq.cycle = none) : ReadTableSound t := by
  unfold ReadTableSound
  rw [hrt]
  exact ⟨by simp, .nil, by simp, by simp, .of_waiting (by simp [hidle]) (by rw [hrt]; simp)⟩

/-- An event that removes records: what is left must be as the cycle in flight says. -/
theorem of_filter (hs : ReadTableSound s) {p : ReadRecord → Bool} (hrt : t.rt = s.rt.filter p)
    (hrows : RowsHoldNoMore s t) (hactive : t.cfg.active = s.cfg.active) (hread : ReadInFlight t) : ReadTableSound t := by
  obtain ⟨hlen, hpair, hheld, htail, -⟩ := hs
  unfold ReadTableSound
  rw [hrt, hactive]
  refine ⟨(List.length_filter_le _ _).trans hlen, hpair.filter _, fun x hx => ?_, fun x hx => ?_, hread⟩
  · have hm := hheld x (List.mem_of_mem_filter hx)
    exact ⟨hrows _ _ hm.1, hm.2⟩
  · cases hr : s.rt with
    | nil => simp [hr] at hx
    | cons y rest =>
      rw [hr] at hx htail
      rw [List.filter_cons] at hx
      split at hx
      · exact htail x (List.mem_of_mem_filter hx)
      · exact htail x (List.mem_of_mem_filter (List.mem_of_mem_tail hx))

theorem addRecord (hs : ReadTableSound s) (m : Request) (hpair : ¬PairHeld s m.source m.tag)
    (hline : s.cfg.active.mapped m.line = true) (hroom : s.rt.length < 8) : ReadTableSound (s.addRecord m) := by
  obtain ⟨hfree, hrow⟩ := (not_pairHeld_iff s m.source m.tag).1 hpair
  obtain ⟨-, hpairs, hheld, htail, hread⟩ := hs
  have hlast : ∀ {x : ReadRecord} {xs : List ReadRecord}, (∀ y ∈ xs, y.state = .waiting) →
      x ∈ xs ++ [{ source := m.source, tag := m.tag, line := m.line, state := .waiting }] → x.state = .waiting := by
    intro x xs hxs hx
    rcases List.mem_append.1 hx with hx | hx
    · exact hxs x hx
    · rw [List.mem_singleton.1 hx]
  refine ⟨by simp [State.addRecord]; omega, ?_, fun x hx => ?_, fun x hx => ?_, ?_⟩
  · refine List.pairwise_append.2 ⟨hpairs, by simp, fun a ha b hb => ?_⟩
    rw [List.mem_singleton.1 hb]
    exact hfree a ha
  · rcases List.mem_append.1 hx with hx | hx
    · exact hheld x hx
    · rw [List.mem_singleton.1 hx]
      exact ⟨hrow, hline⟩
  · cases hr : s.rt with
    | nil => simp [State.addRecord, hr] at hx
    | cons y rest =>
      rw [hr] at htail
      exact hlast htail (by simpa [State.addRecord, hr] using hx)
  · refine hread.of_head rfl rfl (fun x hx _ => ?_) fun hall x hx => hlast hall hx
    cases hr : s.rt with
    | nil => rw [hr] at hx; cases hx
    | cons y rest => rw [hr] at hx; simpa [State.addRecord, hr] using hx

theorem raiseFence (hs : ReadTableSound s) (m : Request) (hpair : ¬PairHeld s m.source m.tag) :
    ReadTableSound (s.raiseFence m) := by
  obtain ⟨hfree, -⟩ := (not_pairHeld_iff s m.source m.tag).1 hpair
  obtain ⟨hlen, hpairs, hheld, htail, hread⟩ := hs
  refine ⟨hlen, hpairs, fun x hx => ⟨?_, (hheld x hx).2⟩, htail, hread⟩
  by_cases hsrc : m.source = x.source
  · have htag : ¬m.tag = x.tag := fun h => hfree x hx ⟨hsrc.symm, h.symm⟩
    simp [State.raiseFence, hsrc, newFence, FenceRow.holdsTag, htag]
  · have hne : (m.source : Nat) ≠ x.source := Fin.val_ne_of_ne hsrc
    simpa [State.raiseFence, Vector.getElem_set_ne _ _ hne] using (hheld x hx).1

/-- The grant of the read claim makes the oldest record READING and begins its LINE READ (R33). -/
theorem grantRead (hs : ReadTableSound s) {older younger : List ReadRecord} {x : ReadRecord} {r : Rank}
    (hidle : s.seq.cycle = none) (hrt : s.rt = older ++ x :: younger) (holder : ∀ y ∈ older, y.state = .reading)
    (hrank : s.cfg.active.rankOf x.line = some r) :
    ReadTableSound ({ s with rt := older ++ { x with state := .reading } :: younger }.startCycle
      (.lineRead r (s.cfg.active.rankLine r x.line))) := by
  obtain ⟨hlen, hpairs, hheld, -, hread⟩ := hs
  have hwait := hread.waiting (by simp [hidle])
  have hfirst : older = [] := by
    rw [List.eq_nil_iff_forall_not_mem]
    intro y hy
    have h1 := holder y hy
    rw [hwait y (by rw [hrt]; simp [hy])] at h1
    cases h1
  subst hfirst
  rw [List.nil_append] at hrt
  rw [hrt] at hlen hpairs hheld hwait
  obtain ⟨hx, hrest⟩ := List.pairwise_cons.1 hpairs
  refine ⟨hlen, List.pairwise_cons.2 ⟨hx, hrest⟩, fun y hy => ?_, fun y hy => hwait y (List.mem_cons_of_mem _ hy),
    { x with state := .reading }, rfl, rfl, hrank, rfl⟩
  rcases List.mem_cons.1 hy with rfl | hy
  · exact hheld x (by simp)
  · exact hheld y (by simp [hy])

theorem depart (hs : ReadTableSound s) {e : Entry} {rest : List Entry} {r : Rank} {l : RankLine}
    (hhead : WritingHead s e rest r l) : ReadTableSound (s.depart e rest r l) := by
  have hrows : RowsHoldNoMore s (s.depart e rest r l) := by
    intro src tag hn
    unfold State.depart
    exact State.report_holdsTag (by simpa [State.finishWords] using hn) _
  obtain ⟨-, -, hcycle | hcycle⟩ := hhead
  · exact hs.end_other hcycle (by simp) (by rw [State.depart_frame]) hrows (by rw [State.depart_frame])
      (by rw [State.depart_frame])
  · exact hs.end_other hcycle (by simp) (by rw [State.depart_frame]) hrows (by rw [State.depart_frame])
      (by rw [State.depart_frame])

theorem finishRead (hs : ReadTableSound s) (x : ReadRecord) (r : Rank) (l : RankLine) :
    ReadTableSound (s.finishRead x r l) := by
  rw [State.finishRead_frame]
  refine hs.of_filter (p := ReadRecord.isWaiting) rfl (.of_rows rfl) rfl (.of_waiting (by simp) fun y hy => ?_)
  simpa [ReadRecord.isWaiting] using (List.mem_filter.1 hy).2

/-- Where no LINE READ is in flight, the refusal of the WAITING records leaves none. -/
theorem filter_waiting_nil (hs : ReadTableSound s) (hc : ∀ r l, s.seq.cycle ≠ some (.lineRead r l)) :
    s.rt.filter (fun x => !x.isWaiting) = [] := by
  obtain ⟨-, -, -, -, hread⟩ := hs
  rw [List.filter_eq_nil_iff]
  intro x hx
  simp [ReadRecord.isWaiting, hread.waiting hc x hx]

theorem finishEntry (hs : ReadTableSound s) (hcycle : s.seq.cycle = some .selfRefreshEntry) : ReadTableSound s.finishEntry :=
  .of_empty (hs.filter_waiting_nil (by simp [hcycle])) rfl

/-- The hold-up expiry leaves the READING record, if any, alone in the table. -/
theorem expireHoldup (hs : ReadTableSound s) : ReadTableSound s.expireHoldup := by
  have hrows : RowsHoldNoMore s s.expireHoldup := by
    intro src tag hn
    rw [State.expireHoldup_frame]
    unfold State.discardQueued
    exact State.discards_holdsTag (s := { s with pq := s.pq.filter Entry.isWriting }) hn
  have hcycle : s.expireHoldup.seq.cycle = s.seq.cycle := by rw [State.expireHoldup_frame]
  have hactive : s.expireHoldup.cfg.active = s.cfg.active := by rw [State.expireHoldup_frame]
  have hrt : s.expireHoldup.rt = s.rt.filter fun x => !x.isWaiting := by rw [State.expireHoldup_frame]
  obtain ⟨-, -, -, -, hread⟩ := id hs
  refine hs.of_filter hrt hrows hactive (hread.of_head hcycle hactive (fun x hx hstate => ?_) fun hall x hx => ?_)
  · rw [hrt]
    cases hr : s.rt with
    | nil => rw [hr] at hx; cases hx
    | cons y rest =>
      rw [hr] at hx
      cases hx
      simp [ReadRecord.isWaiting, hstate]
  · rw [hrt] at hx
    exact hall x (List.mem_of_mem_filter hx)

end ReadTableSound

theorem Effect.readTableSound {s t : State} (hs : ReadTableSound s) (h : Effect s t) : ReadTableSound t := by
  cases h with
  | nothing | passTime | coalesce | append | ripen | scrubExpiry | warn | unwarn | resume | releaseReset | popLog
  | clearOverflow | clearCorrected | setMask | stage | flip => exact hs
  | addRecord m _ hpair hline hroom => exact hs.addRecord m hpair hline hroom
  | raiseFence m _ hpair => exact hs.raiseFence m hpair
  | grantPowerUp hidle | grantEntry hidle | grantExit hidle => exact ReadTableSound.begin_other hs hidle (by simp)
  | grantRefresh n hwork | grantFill hwork | grantScrub hwork =>
    exact ReadTableSound.begin_other hs hwork.idle (by simp)
  | grantDrain e rest r hwork =>
    refine ReadTableSound.begin_other (s := { s with pq := _ }) hs hwork.idle fun _ _ => ?_
    unfold Entry.drainCycle
    split <;> simp
  | grantRead older younger x r hwork hrt holder _ hrank => exact hs.grantRead hwork.idle hrt holder hrank
  | depart e rest r l hhead => exact hs.depart hhead
  | finishRead x r l => exact hs.finishRead x r l
  | finishRefresh n hcycle => exact hs.end_other hcycle (by simp) rfl (.of_rows rfl) rfl rfl
  | finishScrub r l hcycle =>
    rw [State.finishScrub_frame]
    exact hs.end_other hcycle (by simp) rfl (.of_rows rfl) rfl rfl
  | finishFill r l hcycle =>
    exact hs.end_other hcycle (by simp) (by rw [State.advanceFill_frame]; rfl)
      (.of_rows (by rw [State.advanceFill_frame]; rfl)) (State.advanceFill_active _) (by rw [State.advanceFill_frame]; rfl)
  | finishPowerUp hcycle =>
    exact hs.end_other hcycle (by simp) (by rw [State.afterModeOperation_frame]; rfl)
      (.of_rows (by rw [State.afterModeOperation_frame]; rfl)) (State.afterModeOperation_active _)
      (by rw [State.afterModeOperation_frame]; rfl)
  | finishEntry hcycle => exact hs.finishEntry hcycle
  | finishExit hcycle =>
    exact hs.end_other hcycle (by simp) (by rw [State.finishExit_frame]; rfl)
      (.of_rows (by rw [State.finishExit_frame]; rfl)) (State.finishExit_active _) (by rw [State.finishExit_frame]; rfl)
  | tick => rw [State.tick_eq]; exact hs
  | holdupExpiry => exact hs.expireHoldup
  | warnInRun =>
    exact hs.of_same (by rw [State.enterHoldup_frame]; rfl) (.of_rows (by rw [State.enterHoldup_frame]; rfl))
      (by rw [State.enterHoldup_frame]; rfl) (State.enterHoldup_active _)
  | returnToRun => rw [State.returnToRun_frame]; exact hs
  | applyCommit _ hquiet =>
    simp only [State.quiet, Bool.and_eq_true, List.isEmpty_iff, State.idle, Option.isNone_iff_eq_none] at hquiet
    obtain ⟨⟨⟨-, hrt⟩, -⟩, hidle⟩ := hquiet
    exact .of_empty hrt hidle
  | powerOn | externalReset | maintenanceReset => exact .of_empty (by simp [State.setRst]) (by simp [State.setRst])
  | flush =>
    rcases s.takeFlush_cases with h | ⟨-, -, h⟩ | ⟨-, -, h⟩ <;> rw [h] <;> exact hs
  | commit =>
    exact hs.of_same (by rw [State.takeCommit_frame]) (.of_rows (by rw [State.takeCommit_frame]))
      (by rw [State.takeCommit_frame]) s.takeCommit_active
  | abort =>
    exact hs.of_same (by rw [State.takeAbort_frame]) (.of_rows (by rw [State.takeAbort_frame]))
      (by rw [State.takeAbort_frame]) s.takeAbort_active

/-- Settles O7: a record comes under a pair that nothing holds, becomes READING with the grant of its LINE READ, and
leaves with its completion or unread. -/
theorem stepKeepsReadTableSound : Obligations.StepKeepsReadTableSound :=
  step_keeps (fun h hs => hs.of_same h.rt (.of_rows (by rw [h.ft])) (by rw [h.seq]) (by rw [h.cfg])) Effect.readTableSound

end Sys2Proof.Machine

/-! # What the mode governs

Every effect keeps what the mode governs (R79, R102, R124, R131, R133, R141, R154, R158). The sixteen clauses of ModeSound
have names here, and each effect says only of those that it touches why they still hold. -/

namespace Sys2Proof.Machine

/-- The clauses of ModeSound, by name. -/
structure ModeFacts (s : State) : Prop where
  ready : s.pins.portReady = decide (s.mdc.mode ≠ .init)
  rst : s.pins.rst = true → s.mdc.mode = .init ∧ s.seq.cycle = none ∧ s.mnt.transfer = .idle
  run : s.mdc.mode = .run → s.pins.pwarn = false
  retain : s.mdc.mode = .retain → s.pins.pwarn = true
  holdup : s.mdc.mode = .holdup → s.seq.cycle ≠ some .selfRefreshEntry → s.pins.pwarn = true
  filled : s.mdc.mode.filled = true → s.mdc.record.fillComplete = true
  cycle : ∀ c, s.seq.cycle = some c → CycleInMode c s.mdc.mode
  condition : ConditionInMode s
  works : s.mdc.mode.works = false → s.pq = [] ∧ s.rt = [] ∧ s.rowsFree = true
  entry : s.seq.cycle = some .selfRefreshEntry → s.pq = [] ∧ s.rowsFree = true ∧ ∀ r ∈ s.rt, r.state = .waiting
  ticks : ∀ n : Rank, s.rfs[n].timer.isRunning = (s.cfg.active.ranks[n].enable && s.mdc.mode.ticks)
  scrub : s.scr.timer.isRunning = (s.cfg.active.scrubEnable && s.mdc.mode == .run)
  due : s.scr.due = true → s.cfg.active.scrubEnable = true ∧ s.mdc.mode = .run
  timer : s.mdc.holdupTimer.isRunning = true → s.mdc.mode = .holdup
  outcome : s.cfg.pending = true ↔ s.cfg.outcome = .accepted
  pending : s.cfg.pending = true → s.mdc.mode = .run

theorem modeSound_iff (s : State) : ModeSound s ↔ ModeFacts s :=
  ⟨fun ⟨a, b, c, d, e, f, g, h, i, j, k, l, m, n, o, p⟩ => ⟨a, b, c, d, e, f, g, h, i, j, k, l, m, n, o, p⟩,
    fun ⟨a, b, c, d, e, f, g, h, i, j, k, l, m, n, o, p⟩ => ⟨a, b, c, d, e, f, g, h, i, j, k, l, m, n, o, p⟩⟩

/-! ## Conditions and rows -/

/-- The array condition depends on the cycle in flight only as far as it is a POWER-UP or a SELF-REFRESH ENTRY. -/
theorem ConditionInMode.of_cycle {s t : State} (h : ConditionInMode s) (hmode : t.mdc.mode = s.mdc.mode)
    (hcond : t.seq.condition = s.seq.condition) (hs : s.seq.cycle ≠ some .selfRefreshEntry)
    (ht : t.seq.cycle ≠ some .selfRefreshEntry) (hup : t.seq.cycle = some .powerUp → s.seq.condition ≠ .selfRefresh) :
    ConditionInMode t := by
  unfold ConditionInMode at h ⊢
  rw [hmode, hcond]
  revert h
  cases s.mdc.mode with
  | init => exact fun _ => hup
  | holdup => simp only [if_neg hs, if_neg ht]; exact id
  | fill | run | retain | resume => exact id

theorem rowsFree_of_ft {s t : State} (h : t.ft = s.ft) : t.rowsFree = s.rowsFree := by
  unfold State.rowsFree State.pendingRows
  rw [h]

theorem rowsFree_of_reset {t : State} (h : t.ft = fenceTableAtReset) : t.rowsFree = true := by
  rw [State.rowsFree_iff]
  intro src
  rw [h]
  simp only [fenceTableAtReset, Fin.getElem_fin, Vector.getElem_replicate]

/-- A report brings about no PENDING row. -/
theorem rowsFree_report {s : State} (h : s.rowsFree = true) (r : Report) : (s.report r).rowsFree = true := by
  rw [State.rowsFree_iff] at h ⊢
  intro src
  unfold State.report
  dsimp only
  split
  · by_cases hsrc : r.source = src
    · subst hsrc
      simp [h r.source, FenceRow.counted]
    · have hne : (r.source : Nat) ≠ src := Fin.val_ne_of_ne hsrc
      simpa [Vector.getElem_set_ne _ _ hne] using h src
  · exact h src

theorem rowsFree_discards {es : List Entry} {s : State} (h : s.rowsFree = true) :
    (es.foldl (fun t e => t.report e.discardReport) s).rowsFree = true := by
  induction es generalizing s with
  | nil => exact h
  | cons e es ih => exact ih (rowsFree_report h _)

namespace ModeFacts

variable {s t : State}

/-! ## What the clauses say together -/

theorem not_entry_of_run (h : ModeFacts s) (hmode : s.mdc.mode = .run) : s.seq.cycle ≠ some .selfRefreshEntry := by
  intro hc
  have hm : s.mdc.mode = .holdup := h.cycle _ hc
  rw [hmode] at hm
  cases hm

/-- The modes in which the array is ACTIVE out of INIT are those in which the tick timers run. -/
theorem ticks_of_active (h : ModeFacts s) (hcond : s.seq.condition = .active) (hinit : s.mdc.mode ≠ .init) :
    s.mdc.mode.ticks = true := by
  have hc := h.condition
  unfold ConditionInMode at hc
  cases hm : s.mdc.mode with
  | init => exact absurd hm hinit
  | retain | resume =>
    rw [hm] at hc
    rw [hcond] at hc
    cases hc
  | fill | run | holdup => rfl

theorem not_rst_of_mode (h : ModeFacts s) (hmode : s.mdc.mode ≠ .init) : s.pins.rst = false := by
  by_contra hr
  rw [Bool.not_eq_false] at hr
  exact hmode (h.rst hr).1

theorem not_rst_of_cycle (h : ModeFacts s) {c : Cycle} (hc : s.seq.cycle = some c) : s.pins.rst = false := by
  by_contra hr
  rw [Bool.not_eq_false] at hr
  have := (h.rst hr).2.1
  rw [hc] at this
  cases this

/-! ## Changes of the work held -/

/-- An event in RUN that changes the work held alone. -/
theorem of_work_in_run (h : ModeFacts s) (hmode : s.mdc.mode = .run)
    (ht : t = { s with pq := t.pq, rt := t.rt, ft := t.ft }) : ModeFacts t := by
  rw [ht]
  exact { h with
    works := fun hw => absurd (congrArg Mode.works hmode) (ne_true_of_eq_false hw)
    entry := fun hc => absurd hc (h.not_entry_of_run hmode) }

/-- An event that changes entries of the queue in place. -/
theorem of_pq (h : ModeFacts s) {q : List Entry} (hq : s.pq = [] → q = []) : ModeFacts { s with pq := q } :=
  { h with
    works := fun hw => ⟨hq (h.works hw).1, (h.works hw).2⟩
    entry := fun hc => ⟨hq (h.entry hc).1, (h.entry hc).2⟩ }

theorem addRecord (h : ModeFacts s) (m : Request) (hmode : s.mdc.mode.works = true) : ModeFacts (s.addRecord m) := by
  refine { h with works := fun hw => absurd hmode (ne_true_of_eq_false hw),
                  entry := fun hc => ⟨(h.entry hc).1, (h.entry hc).2.1, fun x hx => ?_⟩ }
  rcases List.mem_append.1 hx with hx | hx
  · exact (h.entry hc).2.2 x hx
  · rw [List.mem_singleton.1 hx]

theorem raiseFence (h : ModeFacts s) (m : Request) (hmode : s.mdc.mode.works = true) (hsome : s.entriesOf m.source ≠ 0) :
    ModeFacts (s.raiseFence m) := by
  refine { h with works := fun hw => absurd hmode (ne_true_of_eq_false hw), entry := fun hc => absurd ?_ hsome }
  rw [State.entriesOf, (h.entry hc).1]
  rfl

theorem takeFlush (h : ModeFacts s) : ModeFacts s.takeFlush.1 := by
  rcases s.takeFlush_cases with ht | ⟨-, -, ht⟩ | ⟨-, hpq, ht⟩ <;> rw [ht]
  · exact h
  · exact { h with }
  · exact { h with
      works := fun hw => absurd (h.works hw).1 hpq
      entry := fun hc => absurd (h.entry hc).1 hpq }

/-! ## Cycles that begin and end -/

/-- A cycle that begins, of a kind that the mode admits and no SELF-REFRESH ENTRY. -/
theorem begin_cycle (h : ModeFacts s) {c : Cycle} (hidle : s.seq.cycle = none) (hrst : s.pins.rst = false)
    (hc : CycleInMode c s.mdc.mode) (hentry : c ≠ .selfRefreshEntry)
    (hup : c = .powerUp → s.seq.condition ≠ .selfRefresh) : ModeFacts (s.startCycle c) := by
  refine { h with rst := fun hr => ?rst, holdup := fun hm _ => ?holdup, cycle := fun d hd => ?cycle,
                  condition := ?condition, entry := fun hd => ?entry }
  case rst => exact absurd hr (ne_true_of_eq_false hrst)
  case holdup => exact h.holdup hm (by rw [hidle]; simp)
  case cycle =>
    cases hd
    exact hc
  case condition =>
    exact h.condition.of_cycle rfl rfl (by rw [hidle]; simp) (fun hd => hentry (Option.some.inj hd))
      fun hd => hup (Option.some.inj hd)
  case entry => exact absurd (Option.some.inj hd) hentry

/-- A cycle of rows 2 to 8 that begins in a mode that admits it. -/
theorem begin_work (h : ModeFacts s) {c : Cycle} (hw : WorkGranted s) (hc : CycleInMode c s.mdc.mode)
    (hentry : c ≠ .selfRefreshEntry) (hup : c ≠ .powerUp) : ModeFacts (s.startCycle c) :=
  h.begin_cycle hw.idle hw.rst hc hentry fun hd => absurd hd hup

theorem works_of_queued (h : ModeFacts s) (hpq : s.pq ≠ []) : s.mdc.mode.works = true := by
  by_contra hw
  rw [Bool.not_eq_true] at hw
  exact hpq (h.works hw).1

theorem works_of_held (h : ModeFacts s) (hrt : s.rt ≠ []) : s.mdc.mode.works = true := by
  by_contra hw
  rw [Bool.not_eq_true] at hw
  exact hrt (h.works hw).2.1

theorem grantEntry (h : ModeFacts s) (hmode : s.mdc.mode = .holdup) (hpq : s.pq = [])
    (hrt : s.rt = []) (hrows : RowsFree s) : ModeFacts ((s.setCondition .selfRefresh).startCycle .selfRefreshEntry) := by
  refine { h with rst := fun hr => ?rst, holdup := fun _ hd => absurd rfl hd, cycle := fun d hd => ?cycle,
                  condition := ?condition, entry := fun _ => ⟨hpq, s.rowsFree_iff.2 hrows, ?waiting⟩ }
  case rst => exact absurd hr (ne_true_of_eq_false (h.not_rst_of_mode (by rw [hmode]; decide)))
  case cycle =>
    cases hd
    exact hmode
  case condition =>
    unfold ConditionInMode
    simp [State.startCycle, State.setCondition, hmode]
  case waiting =>
    change ∀ r ∈ s.rt, _
    rw [hrt]
    simp

/-- A cycle that ends, no SELF-REFRESH ENTRY, and leaves the mode and the array condition as they were. -/
theorem end_cycle (h : ModeFacts s) {c : Cycle} (hc : s.seq.cycle = some c) (hentry : c ≠ .selfRefreshEntry) :
    ModeFacts s.endCycle := by
  have hne : s.seq.cycle ≠ some .selfRefreshEntry := by rw [hc]; simpa using hentry
  exact { h with
    rst := fun hr => ⟨(h.rst hr).1, rfl, (h.rst hr).2.2⟩
    holdup := fun hm _ => h.holdup hm hne
    cycle := nofun
    condition := h.condition.of_cycle rfl rfl hne (by simp) (by simp)
    entry := nofun }

theorem depart (h : ModeFacts s) {e : Entry} {rest : List Entry} {r : Rank} {l : RankLine}
    (hhead : WritingHead s e rest r l) : ModeFacts (s.depart e rest r l) := by
  have hend : ModeFacts s.endCycle := by
    obtain ⟨-, -, hc | hc⟩ := hhead <;> exact h.end_cycle hc (by simp)
  have hworks := h.works_of_queued (by rw [hhead.1]; simp)
  rw [State.depart_frame]
  exact { hend with
    works := fun hw => absurd hworks (ne_true_of_eq_false hw)
    entry := nofun }

theorem finishRead (h : ModeFacts s) (x : ReadRecord) {r : Rank} {l : RankLine} (hc : s.seq.cycle = some (.lineRead r l)) :
    ModeFacts (s.finishRead x r l) := by
  have hend := h.end_cycle hc (by simp)
  rw [State.finishRead_frame]
  exact { hend with
    works := fun hw => ⟨(h.works hw).1, by rw [(h.works hw).2.1]; rfl, (h.works hw).2.2⟩
    entry := nofun }

/-! ## The mode becomes RUN -/

/-- What holds of a device whose mode is about to become RUN. -/
structure ReadyToRun (s : State) : Prop where
  ready : s.pins.portReady = true
  rst : s.pins.rst = false
  filled : s.mdc.record.fillComplete = true
  idle : s.seq.cycle = none
  condition : s.seq.condition = .active
  ticks : ∀ n : Rank, s.rfs[n].timer.isRunning = s.cfg.active.ranks[n].enable
  scrub : s.scr.timer.isRunning = false
  due : s.scr.due = false
  timer : s.mdc.holdupTimer.isRunning = false
  pending : s.cfg.pending = false
  outcome : s.cfg.outcome ≠ .accepted

/-- The fresh start of a scrub timer that rests runs it exactly if scrub is enabled. -/
theorem startScrub_of_rest (htimer : s.scr.timer.isRunning = false) (hdue : s.scr.due = false) :
    s.startScrub.scr.timer.isRunning = s.cfg.active.scrubEnable ∧ s.startScrub.scr.due = false := by
  unfold State.startScrub
  split
  · rename_i he
    exact ⟨he.symm, rfl⟩
  · rename_i he
    rw [Bool.not_eq_true] at he
    exact ⟨htimer.trans he.symm, hdue⟩

theorem startScrub_of_ready (h : ReadyToRun s) (hpwarn : s.pins.pwarn = false) : ModeFacts (s.setMode .run).startScrub := by
  have hcond : ConditionInMode (s.setMode .run).startScrub := by
    rw [State.startScrub_frame]
    exact h.condition
  obtain ⟨htimer, hdue⟩ := startScrub_of_rest (s := s.setMode .run) h.scrub h.due
  rw [State.startScrub_frame] at hcond ⊢
  exact
    { ready := h.ready
      rst := fun hr => absurd hr (ne_true_of_eq_false h.rst)
      run := fun _ => hpwarn
      retain := nofun
      holdup := nofun
      filled := fun _ => h.filled
      cycle := fun c hc => nomatch h.idle.symm.trans hc
      condition := hcond
      works := nofun
      entry := fun hc => nomatch h.idle.symm.trans hc
      ticks := fun n => by simpa [State.setMode, Mode.ticks] using h.ticks n
      scrub := htimer.trans (Bool.and_true _).symm
      due := fun hd => absurd hd (ne_true_of_eq_false hdue)
      timer := fun ht => absurd ht (ne_true_of_eq_false h.timer)
      outcome := ⟨fun hp => absurd hp (ne_true_of_eq_false h.pending), fun ho => absurd ho h.outcome⟩
      pending := fun _ => rfl }

/-- The entry to HOLDUP from RUN, with PWARN_N asserted (R123). -/
theorem enterHoldup_of_run (hready : s.pins.portReady = true) (hrst : s.pins.rst = false) (hpwarn : s.pins.pwarn = true)
    (hfilled : s.mdc.record.fillComplete = true) (hcycle : ∀ c, s.seq.cycle = some c → CycleInMode c .run)
    (hcond : s.seq.condition = .active)
    (hticks : ∀ n : Rank, s.rfs[n].timer.isRunning = s.cfg.active.ranks[n].enable)
    (houtcome : s.cfg.pending = true ↔ s.cfg.outcome = .accepted) : ModeFacts s.enterHoldup := by
  have hentry : s.seq.cycle ≠ some .selfRefreshEntry := fun hc => nomatch hcycle _ hc
  have hpending : s.enterHoldup.cfg.pending = false ∧ s.enterHoldup.cfg.outcome ≠ .accepted ∧
      s.enterHoldup.cfg.active = s.cfg.active := by
    rw [State.enterHoldup_cfg]
    cases hp : s.cfg.pending with
    | true => exact ⟨rfl, by simp, rfl⟩
    | false => exact ⟨hp, fun ho => absurd (houtcome.2 ho) (ne_true_of_eq_false hp), rfl⟩
  obtain ⟨hp, ho, ha⟩ := hpending
  rw [State.enterHoldup_frame]
  exact
    { ready := hready
      rst := fun hr => absurd hr (ne_true_of_eq_false hrst)
      run := nofun
      retain := nofun
      holdup := fun _ _ => hpwarn
      filled := fun _ => hfilled
      cycle := fun c hc => by
        have hr := hcycle c hc
        cases c with
        | lineRead | plainWrite | mergeWrite | refresh | scrub => rfl
        | fill | powerUp | selfRefreshEntry => exact nomatch hr
        | selfRefreshExit => rcases hr with hr | hr <;> cases hr
      condition := by
        unfold ConditionInMode
        simp [hentry, hcond]
      works := nofun
      entry := fun hc => absurd hc hentry
      ticks := fun n => by
        change s.rfs[n].timer.isRunning = (s.enterHoldup.cfg.active.ranks[n].enable && true)
        rw [ha, Bool.and_true]
        exact hticks n
      scrub := by simp [Timer.isRunning]
      due := nofun
      timer := fun _ => rfl
      outcome := ⟨fun h => absurd h (ne_true_of_eq_false hp), fun h => absurd h ho⟩
      pending := fun h => absurd h (ne_true_of_eq_false hp) }

theorem becomeRun_of_ready (h : ReadyToRun s) : ModeFacts s.becomeRun := by
  unfold State.becomeRun
  dsimp only
  split
  · rename_i hp
    rw [State.startScrub_frame] at hp ⊢
    exact enterHoldup_of_run h.ready h.rst hp h.filled (fun c hc => nomatch h.idle.symm.trans hc) h.condition h.ticks
      ⟨fun hp => absurd hp (ne_true_of_eq_false h.pending), fun ho => absurd ho h.outcome⟩
  · rename_i hp
    rw [State.startScrub_frame, Bool.not_eq_true] at hp
    exact startScrub_of_ready h hp

theorem startTicks_isRunning (s : State) (n : Rank) :
    s.startTicks.rfs[n].timer.isRunning = s.cfg.active.ranks[n].enable := by
  simp only [State.startTicks, Fin.getElem_fin, Vector.getElem_ofFn]
  split
  · rename_i h
    exact h.symm
  · rename_i h
    rw [Bool.not_eq_true] at h
    exact h.symm

/-- Out of RUN no scrub is due, and no commit is pending or accepted. -/
theorem rests_of_not_run (h : ModeFacts s) (hmode : s.mdc.mode ≠ .run) :
    s.scr.timer.isRunning = false ∧ s.scr.due = false ∧ s.cfg.pending = false ∧ s.cfg.outcome ≠ .accepted := by
  have hp : s.cfg.pending = false := by
    by_contra hp
    rw [Bool.not_eq_false] at hp
    exact hmode (h.pending hp)
  refine ⟨?_, ?_, hp, fun ho => ?_⟩
  · rw [h.scrub]
    simp [hmode]
  · by_contra hd
    rw [Bool.not_eq_false] at hd
    exact hmode (h.due hd).2
  · rw [h.outcome.2 ho] at hp
    cases hp

/-- Out of HOLDUP the hold-up timer is stopped. -/
theorem timer_of_not_holdup (h : ModeFacts s) (hmode : s.mdc.mode ≠ .holdup) : s.mdc.holdupTimer.isRunning = false := by
  by_contra ht
  rw [Bool.not_eq_false] at ht
  exact hmode (h.timer ht)

/-- INIT ends with its first operation (R152). -/
theorem endInit (h : ModeFacts s) {c : Cycle} (hc : s.seq.cycle = some c) (hmode : s.mdc.mode = .init) :
    ModeFacts (s.endCycle.setCondition .active).endInit := by
  obtain ⟨hscr, hdue, hpending, houtcome⟩ := h.rests_of_not_run (by rw [hmode]; decide)
  have htimer := h.timer_of_not_holdup (by rw [hmode]; decide)
  have hrst := h.not_rst_of_cycle hc
  have hticks := startTicks_isRunning s
  obtain ⟨hpq, hrt, hrows⟩ := h.works (by rw [hmode]; rfl)
  unfold State.endInit
  dsimp only
  split
  · rename_i hfill
    exact becomeRun_of_ready ⟨rfl, hrst, hfill, rfl, rfl, hticks, hscr, hdue, htimer, hpending, houtcome⟩
  · exact
      { ready := rfl
        rst := fun hr => absurd hr (ne_true_of_eq_false hrst)
        run := nofun
        retain := nofun
        holdup := nofun
        filled := nofun
        cycle := nofun
        condition := rfl
        works := fun _ => ⟨hpq, hrt, hrows⟩
        entry := nofun
        ticks := fun n => (hticks n).trans (Bool.and_true _).symm
        scrub := hscr.trans (Bool.and_false _).symm
        due := fun hd => absurd hd (ne_true_of_eq_false hdue)
        timer := fun ht => absurd ht (ne_true_of_eq_false htimer)
        outcome := h.outcome
        pending := fun hp => absurd hp (ne_true_of_eq_false hpending) }

theorem finishPowerUp (h : ModeFacts s) (hc : s.seq.cycle = some .powerUp) :
    ModeFacts (s.endCycle.setCondition .active).afterModeOperation := by
  have hmode : s.mdc.mode = .init := h.cycle _ hc
  have hbegun : (s.endCycle.setCondition .active).mdc.mode = .init := hmode
  unfold State.afterModeOperation
  rw [if_pos hbegun]
  exact h.endInit hc hmode

theorem finishExit (h : ModeFacts s) (hc : s.seq.cycle = some .selfRefreshExit) :
    ModeFacts (s.endCycle.setCondition .active).finishExit := by
  have hmode : s.mdc.mode = .init ∨ s.mdc.mode = .resume := h.cycle _ hc
  have hsame : (s.endCycle.setCondition .active).mdc.mode = s.mdc.mode := rfl
  unfold State.finishExit
  rw [hsame]
  rcases hmode with hmode | hmode <;> rw [hmode]
  · exact h.endInit hc hmode
  · obtain ⟨hscr, hdue, hpending, houtcome⟩ := h.rests_of_not_run (by rw [hmode]; decide)
    refine becomeRun_of_ready ⟨?_, h.not_rst_of_cycle hc, h.filled (by rw [hmode]; rfl), rfl, rfl,
      startTicks_isRunning _, hscr, hdue, h.timer_of_not_holdup (by rw [hmode]; decide), hpending, houtcome⟩
    exact h.ready.trans (by rw [hmode]; rfl)

/-- A FILL moves the pointer on in FILL, or ends it (R153, R154). -/
theorem finishFill (h : ModeFacts s) {r : Rank} {l : RankLine} (hc : s.seq.cycle = some (.fill r l)) :
    ModeFacts s.finishWords.endCycle.advanceFill := by
  have hmode : s.mdc.mode = .fill := h.cycle _ hc
  have hend := h.end_cycle hc (by simp)
  unfold State.advanceFill
  split
  · exact { hend with }
  split
  · exact { hend with }
  · obtain ⟨hscr, hdue, hpending, houtcome⟩ := h.rests_of_not_run (by rw [hmode]; decide)
    have hcond := h.condition
    unfold ConditionInMode at hcond
    rw [hmode] at hcond
    refine becomeRun_of_ready ⟨h.ready.trans (by rw [hmode]; rfl), h.not_rst_of_cycle hc, rfl, rfl, hcond, fun n => ?_,
      hscr, hdue, h.timer_of_not_holdup (by rw [hmode]; decide), hpending, houtcome⟩
    exact (h.ticks n).trans (by rw [hmode]; exact Bool.and_true _)

/-! ## Retention -/

theorem finishEntry (h : ModeFacts s) (hc : s.seq.cycle = some .selfRefreshEntry) : ModeFacts s.finishEntry := by
  have hmode : s.mdc.mode = .holdup := h.cycle _ hc
  obtain ⟨hpq, hrows, hwait⟩ := h.entry hc
  obtain ⟨hscr, hdue, hpending, houtcome⟩ := h.rests_of_not_run (by rw [hmode]; decide)
  have hcond := h.condition
  unfold ConditionInMode at hcond
  rw [hmode] at hcond
  simp only [hc, if_true] at hcond
  have hrst := h.not_rst_of_cycle hc
  have hready : s.pins.portReady = true := h.ready.trans (by rw [hmode]; rfl)
  have hfilled : s.mdc.record.fillComplete = true := h.filled (by rw [hmode]; rfl)
  have hrt : s.rt.filter (fun x => !x.isWaiting) = [] := by
    rw [List.filter_eq_nil_iff]
    intro x hx
    simp [ReadRecord.isWaiting, hwait x hx]
  have hticks : ∀ n : Rank, s.finishEntry.rfs[n].timer.isRunning = false := by
    intro n
    simp only [State.finishEntry, State.setMode, State.stopTicks, Fin.getElem_fin, Vector.getElem_map]
    rfl
  have hnext : s.finishEntry.mdc.mode = if s.pins.pwarn then .retain else .resume := rfl
  have hgone : s.finishEntry.mdc.mode.works = false ∧ s.finishEntry.mdc.mode.ticks = false ∧
      s.finishEntry.mdc.mode ≠ .init ∧ s.finishEntry.mdc.mode ≠ .run ∧ s.finishEntry.mdc.mode ≠ .holdup ∧
      (s.finishEntry.mdc.mode = .retain → s.pins.pwarn = true) ∧ ConditionInMode s.finishEntry := by
    unfold ConditionInMode
    rw [hnext]
    cases hp : s.pins.pwarn <;> exact ⟨rfl, rfl, by simp, by simp, by simp, by simp, hcond⟩
  obtain ⟨-, hstop, hinit, hrun, hhold, hretain, hcondition⟩ := hgone
  exact
    { ready := hready.trans (by simp [hinit])
      rst := fun hr => absurd hr (ne_true_of_eq_false hrst)
      run := fun hm => absurd hm hrun
      retain := hretain
      holdup := fun hm => absurd hm hhold
      filled := fun _ => hfilled
      cycle := nofun
      condition := hcondition
      works := fun _ => ⟨hpq, hrt, hrows⟩
      entry := nofun
      ticks := fun n => by rw [hticks, hstop, Bool.and_false]
      scrub := by rw [show s.finishEntry.scr.timer.isRunning = false from hscr]; simp [hrun]
      due := fun hd => absurd hd (ne_true_of_eq_false hdue)
      timer := nofun
      outcome := h.outcome
      pending := fun hp => absurd hp (ne_true_of_eq_false hpending) }

/-- The hold-up expiry leaves HOLDUP, in which it comes, with its timer stopped. -/
theorem expireHoldup (h : ModeFacts s) (hdue : s.mdc.holdupTimer.due s.now = true) : ModeFacts s.expireHoldup := by
  have hmode : s.mdc.mode = .holdup := by
    apply h.timer
    cases ht : s.mdc.holdupTimer with
    | stopped => rw [ht] at hdue; cases hdue
    | running d => rfl
  rw [State.expireHoldup_frame]
  refine { h with
    works := fun hw => absurd (congrArg Mode.works hmode) (ne_true_of_eq_false hw), entry := fun hc => ?_, timer := nofun }
  obtain ⟨hpq, hrows, hwait⟩ := h.entry hc
  have hfree : s.discardQueued.rowsFree = true :=
    rowsFree_discards (s := { s with pq := s.pq.filter Entry.isWriting }) hrows
  exact ⟨by rw [hpq]; rfl, hfree, fun x hx => hwait x (List.mem_of_mem_filter hx)⟩

/-! ## PWARN_N -/

theorem warn (h : ModeFacts s) (hmode : s.mdc.mode ≠ .run) : ModeFacts (s.setPwarn true) :=
  { h with
    run := fun hm => absurd hm hmode
    retain := fun _ => rfl
    holdup := fun _ _ => rfl }

theorem unwarn (h : ModeFacts s) (hmode : s.mdc.mode ≠ .retain)
    (hentry : s.mdc.mode = .holdup → s.seq.cycle = some .selfRefreshEntry) : ModeFacts (s.setPwarn false) :=
  { h with
    run := fun _ => rfl
    retain := fun hm => absurd hm hmode
    holdup := fun hm hc => absurd (hentry hm) hc }

theorem warnInRun (h : ModeFacts s) (hmode : s.mdc.mode = .run) : ModeFacts (s.setPwarn true).enterHoldup := by
  have hcond := h.condition
  unfold ConditionInMode at hcond
  rw [hmode] at hcond
  have hrst := h.not_rst_of_mode (by rw [hmode]; decide)
  exact enterHoldup_of_run (s := s.setPwarn true) (h.ready.trans (by rw [hmode]; rfl)) hrst rfl
    (h.filled (by rw [hmode]; rfl)) (fun c hc => hmode ▸ h.cycle c hc) hcond
    (fun n => (h.ticks n).trans (by rw [hmode]; exact Bool.and_true _)) h.outcome

theorem returnToRun (h : ModeFacts s) (hmode : s.mdc.mode = .holdup) (hentry : s.seq.cycle ≠ some .selfRefreshEntry) :
    ModeFacts (s.setPwarn false).returnToRun := by
  obtain ⟨hscr, hdue, hpending, houtcome⟩ := h.rests_of_not_run (by rw [hmode]; decide)
  have hcond := h.condition
  unfold ConditionInMode at hcond
  rw [hmode] at hcond
  simp only [if_neg hentry] at hcond
  have hrst := h.not_rst_of_mode (by rw [hmode]; decide)
  obtain ⟨hrunning, hnotdue⟩ := startScrub_of_rest (s := ((s.setPwarn false).setMode .run).stopHoldup) hscr hdue
  rw [State.returnToRun_frame]
  exact
    { ready := h.ready.trans (by rw [hmode]; rfl)
      rst := fun hr => absurd hr (ne_true_of_eq_false hrst)
      run := fun _ => rfl
      retain := nofun
      holdup := nofun
      filled := fun _ => h.filled (by rw [hmode]; rfl)
      cycle := fun c hc => by
        have hm : CycleInMode c s.mdc.mode := h.cycle c hc
        rw [hmode] at hm
        cases c with
        | lineRead | plainWrite | mergeWrite | refresh | scrub => rfl
        | fill | powerUp => exact nomatch hm
        | selfRefreshEntry => exact absurd hc hentry
        | selfRefreshExit => rcases hm with hm | hm <;> cases hm
      condition := hcond
      works := nofun
      entry := fun hc => absurd hc hentry
      ticks := fun n => (h.ticks n).trans (by rw [hmode]; rfl)
      scrub := hrunning.trans (Bool.and_true _).symm
      due := fun hd => absurd hd (ne_true_of_eq_false hnotdue)
      timer := nofun
      outcome := h.outcome
      pending := fun _ => rfl }

theorem resume (h : ModeFacts s) (hmode : s.mdc.mode = .retain) : ModeFacts ((s.setPwarn false).setMode .resume) := by
  have hidle : ∀ c, s.seq.cycle ≠ some c := by
    intro c hc
    have hm := h.cycle c hc
    rw [hmode] at hm
    cases c with
    | selfRefreshExit => rcases hm with hm | hm <;> cases hm
    | lineRead | plainWrite | mergeWrite | refresh | scrub | fill | powerUp | selfRefreshEntry => exact nomatch hm
  obtain ⟨hscr, hdue, hpending, houtcome⟩ := h.rests_of_not_run (by rw [hmode]; decide)
  have htimer := h.timer_of_not_holdup (by rw [hmode]; decide)
  have hcond := h.condition
  unfold ConditionInMode at hcond
  rw [hmode] at hcond
  exact { h with
    ready := h.ready.trans (by rw [hmode]; rfl)
    rst := fun hr => absurd hr (ne_true_of_eq_false (h.not_rst_of_mode (by rw [hmode]; decide)))
    run := nofun
    retain := nofun
    holdup := nofun
    filled := fun _ => h.filled (by rw [hmode]; rfl)
    cycle := fun c hc => absurd hc (hidle c)
    condition := hcond
    works := fun _ => h.works (by rw [hmode]; rfl)
    ticks := fun n => (h.ticks n).trans (by rw [hmode]; rfl)
    scrub := h.scrub.trans (by rw [hmode]; rfl)
    due := fun hd => absurd hd (ne_true_of_eq_false hdue)
    timer := fun ht => absurd ht (ne_true_of_eq_false htimer)
    pending := fun hp => absurd hp (ne_true_of_eq_false hpending) }

/-! ## Timers, commits and resets -/

theorem tick (h : ModeFacts s) {n : Rank} {d : Time} (ht : s.rfs[n].timer = .running d) : ModeFacts (s.tick n d) := by
  rw [State.tick_eq]
  refine { h with ticks := fun m => ?_ }
  rw [← h.ticks m]
  by_cases hm : m = n
  · subst hm
    dsimp only
    rw [State.tickedRanks_self, ht]
    rfl
  · exact congrArg (fun x => x.timer.isRunning) (State.tickedRanks_of_ne hm)

theorem scrubExpiry (h : ModeFacts s) {d : Time} (ht : s.scr.timer = .running d) (next : Time) :
    ModeFacts { s with scr := { s.scr with due := true, timer := .running next } } := by
  have hon := h.scrub
  rw [ht] at hon
  have hboth : s.cfg.active.scrubEnable = true ∧ s.mdc.mode = .run := by simpa [Timer.isRunning] using hon.symm
  exact { h with scrub := hon, due := fun _ => hboth }

theorem payDebt (h : ModeFacts s) (n : Rank) : ModeFacts (s.payDebt n) := by
  refine { h with ticks := fun m => Eq.trans ?_ (h.ticks m) }
  by_cases hm : m = n
  · subst hm
    simp [State.payDebt]
  · have hne : (n : Nat) ≠ m := Fin.val_ne_of_ne (Ne.symm hm)
    simp [State.payDebt, Vector.getElem_set_ne _ _ hne]

theorem applyCommit (h : ModeFacts s) (hpending : s.cfg.pending = true) (hquiet : s.quiet = true) :
    ModeFacts s.applyCommit := by
  have hmode := h.pending hpending
  simp only [State.quiet, Bool.and_eq_true, List.isEmpty_iff, State.idle, Option.isNone_iff_eq_none] at hquiet
  obtain ⟨⟨⟨hpq, hrt⟩, hrows⟩, hidle⟩ := hquiet
  have hptr : ∀ x, (scrubPointerAtCommit s.cfg.active s.cfg.staged x).timer = x.timer ∧
      (scrubPointerAtCommit s.cfg.active s.cfg.staged x).due = x.due := by
    intro x
    unfold scrubPointerAtCommit
    split <;> exact ⟨rfl, rfl⟩
  refine { h with ticks := fun n => ?ticks, scrub := ?scrub, due := fun hd => ⟨?due, hmode⟩,
                  outcome := by simp [State.applyCommit], pending := nofun }
  case ticks =>
    change _ = (s.cfg.staged.ranks[n].enable && s.mdc.mode.ticks)
    rw [hmode]
    simp only [State.applyCommit, Fin.getElem_fin, Vector.getElem_ofFn, refreshAtCommit]
    split
    · rename_i hu
      obtain ⟨hold, hnew, -⟩ := (rankUnchanged_iff _ _ _).1 hu
      rw [Fin.getElem_fin] at hold hnew
      have ht := h.ticks n
      rw [hmode, Fin.getElem_fin, Fin.getElem_fin, hold] at ht
      simpa [hnew, Mode.ticks] using ht
    · cases he : s.cfg.staged.ranks[n.val].enable <;> rfl
  case scrub =>
    change (scrubPointerAtCommit _ _ _).timer.isRunning = (s.cfg.staged.scrubEnable && s.mdc.mode == .run)
    rw [(hptr _).1, hmode, scrubTimerAtCommit]
    cases hnew : s.cfg.staged.scrubEnable with
    | false => rfl
    | true =>
      cases hold : s.cfg.active.scrubEnable with
      | false => rfl
      | true =>
        have ht := h.scrub
        rw [hold, hmode] at ht
        exact ht
  case due =>
    change (scrubPointerAtCommit _ _ _).due = true at hd
    change s.cfg.staged.scrubEnable = true
    rw [(hptr _).2, scrubTimerAtCommit] at hd
    by_contra hn
    rw [if_neg hn] at hd
    cases hd

theorem takeCommit (h : ModeFacts s) : ModeFacts s.takeCommit.1 := by
  unfold State.takeCommit
  split
  · rename_i hmode
    obtain ⟨-, -, hp, -⟩ := h.rests_of_not_run hmode
    exact { h with
      outcome := ⟨fun hc => absurd hc (ne_true_of_eq_false hp), nofun⟩ }
  rename_i hmode
  rw [not_not] at hmode
  split
  · exact h
  rename_i hp
  rw [Bool.not_eq_true] at hp
  split
  · exact { h with
      outcome := ⟨fun hc => absurd hc (ne_true_of_eq_false hp), nofun⟩ }
  · exact { h with outcome := ⟨fun _ => rfl, fun _ => rfl⟩, pending := fun _ => hmode }

theorem takeAbort (h : ModeFacts s) : ModeFacts s.takeAbort.1 := by
  unfold State.takeAbort
  split
  · exact { h with outcome := ⟨nofun, nofun⟩, pending := nofun }
  · exact h

/-- A state right after a reset. -/
theorem of_reset {st : Straps} (hmode : t.mdc.mode = .init) (htimer : t.mdc.holdupTimer = .stopped)
    (hidle : t.seq.cycle = none) (hready : t.pins.portReady = false) (hport : t.mnt.transfer = .idle) (hpq : t.pq = [])
    (hrt : t.rt = []) (hft : t.ft = fenceTableAtReset) (hrfs : t.rfs = refreshAtReset) (hscr : t.scr = scrubberAtReset)
    (hcfg : t.cfg = configAtReset st) : ModeFacts t where
  ready := by rw [hready, hmode]; rfl
  rst := fun _ => ⟨hmode, hidle, hport⟩
  run := fun h => by rw [hmode] at h; cases h
  retain := fun h => by rw [hmode] at h; cases h
  holdup := fun h => by rw [hmode] at h; cases h
  filled := fun h => by rw [hmode] at h; cases h
  cycle := fun c h => by rw [hidle] at h; cases h
  condition := by
    unfold ConditionInMode
    rw [hmode, hidle]
    exact nofun
  works := fun _ => ⟨hpq, hrt, rowsFree_of_reset hft⟩
  entry := fun h => by rw [hidle] at h; cases h
  ticks := fun n => by
    rw [hmode, hrfs]
    simp only [refreshAtReset, Fin.getElem_fin, Vector.getElem_replicate, Mode.ticks, Bool.and_false]
    rfl
  scrub := by
    rw [hscr, hmode]
    exact (Bool.and_false _).symm
  due := fun h => by rw [hscr] at h; cases h
  timer := fun h => by rw [htimer] at h; cases h
  outcome := by rw [hcfg]; simp [configAtReset]
  pending := fun h => by rw [hcfg] at h; cases h

end ModeFacts

theorem Effect.modeFacts {s t : State} (h : ModeFacts s) (he : Effect s t) : ModeFacts t := by
  cases he with
  | nothing | passTime | popLog | clearOverflow | clearCorrected | setMask | stage | flip => exact { h with }
  | coalesce m hmode => exact h.of_work_in_run hmode rfl
  | append m hmode => exact h.of_work_in_run hmode rfl
  | addRecord m hmode => exact h.addRecord m hmode
  | raiseFence m hmode _ _ hsome => exact h.raiseFence m hmode hsome
  | grantPowerUp hidle hrst hmode hcond => exact h.begin_cycle hidle hrst hmode (by simp) fun _ => hcond
  | grantEntry _ hmode hpq hrt hrows => exact h.grantEntry hmode hpq hrt hrows
  | grantExit hidle hrst hmode => exact h.begin_cycle hidle hrst hmode (by simp) (by simp)
  | grantRefresh n hwork => exact h.begin_work hwork (h.ticks_of_active hwork.condition hwork.mode) (by simp) (by simp)
  | grantDrain e rest r hwork hpq =>
    have hq : ModeFacts { s with pq := e.granted :: rest } := h.of_pq fun hn => by rw [hpq] at hn; cases hn
    have hw := h.works_of_queued (by rw [hpq]; simp)
    unfold Entry.drainCycle
    split
    · exact hq.begin_work ⟨hwork.idle, hwork.rst, hwork.condition, hwork.mode⟩ hw (by simp) (by simp)
    · exact hq.begin_work ⟨hwork.idle, hwork.rst, hwork.condition, hwork.mode⟩ hw (by simp) (by simp)
  | grantRead older younger x r hwork hrt =>
    have hw := h.works_of_held (by rw [hrt]; simp)
    have hr : ModeFacts { s with rt := older ++ { x with state := .reading } :: younger } :=
      { h with
        works := fun hn => absurd hw (ne_true_of_eq_false hn)
        entry := fun hc => nomatch hwork.idle.symm.trans hc }
    exact hr.begin_work ⟨hwork.idle, hwork.rst, hwork.condition, hwork.mode⟩ hw (by simp) (by simp)
  | grantFill hwork hmode => exact h.begin_work hwork hmode (by simp) (by simp)
  | grantScrub hwork hmode =>
    have hs : ModeFacts { s with scr := { s.scr with due := false } } := { h with due := nofun }
    exact hs.begin_work ⟨hwork.idle, hwork.rst, hwork.condition, hwork.mode⟩ (by rw [hmode]; rfl) (by simp) (by simp)
  | depart e rest r l hhead => exact h.depart hhead
  | finishRead x r l hc => exact h.finishRead x hc
  | finishRefresh n hc => exact (h.payDebt n).end_cycle hc (by simp)
  | finishScrub r l hc =>
    have hend := h.end_cycle hc (by simp)
    have hptr : ∀ u : State, u.advancePointer.scr.timer = u.scr.timer ∧ u.advancePointer.scr.due = u.scr.due := by
      intro u
      unfold State.advancePointer
      split
      · exact ⟨rfl, rfl⟩
      · split <;> exact ⟨rfl, rfl⟩
    have hscr : (s.finishScrub r l).scr.timer = s.scr.timer ∧ (s.finishScrub r l).scr.due = s.scr.due := by
      unfold State.finishScrub
      dsimp only
      rw [(hptr _).1, (hptr _).2]
      simp [State.finishWords]
    obtain ⟨htimer, hdue⟩ := hscr
    rw [State.finishScrub_frame]
    exact { hend with
      scrub := (congrArg Timer.isRunning htimer).trans h.scrub
      due := fun hd => h.due (hdue.symm.trans hd) }
  | finishFill r l hc => exact h.finishFill hc
  | finishPowerUp hc => exact h.finishPowerUp hc
  | finishEntry hc => exact h.finishEntry hc
  | finishExit hc => exact h.finishExit hc
  | ripen i => exact h.of_pq fun hn => by rw [hn, List.modify_nil]
  | tick n d ht => exact h.tick ht
  | scrubExpiry d ht => exact h.scrubExpiry ht _
  | holdupExpiry hdue => exact h.expireHoldup hdue
  | warn hmode => exact h.warn hmode
  | warnInRun hmode => exact h.warnInRun hmode
  | unwarn hmode hentry => exact h.unwarn hmode hentry
  | returnToRun hmode hentry => exact h.returnToRun hmode hentry
  | resume hmode => exact h.resume hmode
  | applyCommit hpending hquiet => exact h.applyCommit hpending hquiet
  | powerOn p => exact .of_reset (st := p.straps) rfl rfl rfl rfl rfl rfl rfl rfl rfl rfl rfl
  | externalReset st | maintenanceReset st =>
    rw [State.warmReset_frame]
    exact .of_reset (st := st) rfl rfl rfl rfl rfl rfl rfl rfl rfl rfl rfl
  | releaseReset => exact { h with rst := nofun }
  | flush => exact h.takeFlush
  | commit => exact h.takeCommit
  | abort => exact h.takeAbort

theorem ModeFacts.of_sameBlocks {s t : State} (hb : SameBlocks s t) (h : ModeFacts s) : ModeFacts t := by
  rw [hb.eq]
  exact { h with
    rst := fun hr => ⟨(h.rst hr).1, (h.rst hr).2.1, hb.idle hr (h.rst hr).2.2⟩ }

/-- Settles O12: each effect keeps the sixteen clauses that the mode governs. -/
theorem stepKeepsModeSound : Obligations.StepKeepsModeSound := by
  intro s t hs hstep
  exact (modeSound_iff t).2 (step_keeps ModeFacts.of_sameBlocks Effect.modeFacts s t ((modeSound_iff s).1 hs) hstep)

end Sys2Proof.Machine

/-! # The commit check

The commit check is the first test of Table 9-3 that fails; each test, in the terms of the statements, and what the nine
together allow (R135, R140). -/

namespace Sys2Proof.Machine

/-- Whether the test of Table 9-3 with a reason fails, as the commit check computes it. -/
def testFails (c : Settings) : CommitReason → Bool
  | .align => c.someRank RankSettings.misaligned
  | .space => c.someRank RankSettings.beyondSpace
  | .overlap => c.someOverlap
  | .noRank => !c.someRank RankSettings.enable
  | .marks => decide (c.drainThreshold.toNat < 1 ∨ 16 < c.drainThreshold.toNat ∨ c.highMark.toNat < 2 ∨
      16 < c.highMark.toNat ∨ c.highMark.toNat < c.drainThreshold.toNat)
  | .refresh => decide (c.refreshInterval.toNat < 10 ∨ 156 < c.refreshInterval.toNat)
  | .urgent => decide (c.urgentLevel.toNat < 2 ∨ 8 < c.urgentLevel.toNat)
  | .holdup => decide (c.holdupTime = 0)
  | .scrub => decide (c.scrubInterval = 0 ∨ c.correctedThreshold = 0)
  | .notRunning => false

/-- The commit check finds the first test that fails. -/
theorem commitCheck_eq_find? (c : Settings) : commitCheck c = commitTests.find? (testFails c) := by
  have first : ∀ (p : CommitReason → Bool) (r : CommitReason) (rs : List CommitReason),
      (r :: rs).find? p = if p r = true then some r else rs.find? p := by
    intro p r rs
    rw [List.find?_cons]
    cases p r <;> rfl
  simp only [commitTests, first, testFails, decide_eq_true_eq]
  rfl

theorem toNat_ne_zero_iff {w : Nat} (x : BitVec w) : x.toNat ≠ 0 ↔ x ≠ 0 := by
  rw [Ne, Ne, ← BitVec.toNat_inj]
  rfl

theorem someOverlap_false_iff (c : Settings) : c.someOverlap = false ↔ TestPasses c .overlap := by
  rw [← Bool.not_eq_true, c.someOverlap_iff]
  simp only [RankSettings.overlaps_iff]
  constructor
  · intro h n m hne hn hm line hboth
    rcases lt_or_gt_of_ne hne with hlt | hlt
    · exact h ⟨n, m, hlt, hn, hm, line, hboth⟩
    · exact h ⟨m, n, hlt, hm, hn, line, hboth.2, hboth.1⟩
  · rintro h ⟨n, m, hlt, hn, hm, line, hboth⟩
    exact h n m (ne_of_lt hlt) hn hm line hboth

/-- A test of the commit check fails exactly if the test of Table 9-3 does not pass. -/
theorem testFails_false_iff (c : Settings) (r : CommitReason) : testFails c r = false ↔ TestPasses c r := by
  cases r with
  | align =>
    rw [testFails, ← Bool.not_eq_true, c.someRank_iff, not_exists]
    simp only [RankSettings.misaligned_iff, not_and, not_not]
  | space =>
    rw [testFails, ← Bool.not_eq_true, c.someRank_iff, not_exists]
    simp only [RankSettings.beyondSpace_iff, not_and, not_lt]
  | overlap => exact someOverlap_false_iff c
  | noRank => rw [testFails, Bool.not_eq_false', c.someRank_iff]
  | marks =>
    rw [testFails, decide_eq_false_iff_not]
    show _ ↔ _ ∧ _
    omega
  | refresh =>
    rw [testFails, decide_eq_false_iff_not]
    show _ ↔ _ ∧ _
    omega
  | urgent =>
    rw [testFails, decide_eq_false_iff_not]
    show _ ↔ _ ∧ _
    omega
  | holdup => rw [testFails, decide_eq_false_iff_not, ← Ne, ← toNat_ne_zero_iff]
  | scrub => rw [testFails, decide_eq_false_iff_not, not_or, ← Ne, ← Ne, ← toNat_ne_zero_iff, ← toNat_ne_zero_iff]
  | notRunning => exact ⟨fun _ => trivial, fun _ => rfl⟩

theorem commitTests_nodup : commitTests.Nodup := by decide

/-- In a list without repeats, the first member with a property is the one whose predecessors lack it. -/
theorem find?_eq_some_iff_of_nodup {p : CommitReason → Bool} {l earlier later : List CommitReason} {r : CommitReason}
    (hl : l = earlier ++ r :: later) (hn : l.Nodup) :
    l.find? p = some r ↔ p r = true ∧ ∀ x ∈ earlier, p x = false := by
  have hr : r ∉ earlier := fun h => by
    rw [hl, List.nodup_append] at hn
    exact hn.2.2 r h r (by simp) rfl
  rw [hl, List.find?_append]
  constructor
  · intro h
    cases he : earlier.find? p with
    | some y =>
      rw [he] at h
      cases h
      exact absurd (List.mem_of_find?_eq_some he) hr
    | none =>
      rw [he] at h
      refine ⟨List.find?_some h, fun x hx => ?_⟩
      simpa using List.find?_eq_none.1 he x hx
  · rintro ⟨hp, hearlier⟩
    have he : earlier.find? p = none := List.find?_eq_none.2 fun x hx => by simp [hearlier x hx]
    rw [he, Option.none_or, List.find?_cons_of_pos hp]

theorem commitCheck_eq_some_iff (c : Settings) {earlier later : List CommitReason} {r : CommitReason}
    (h : commitTests = earlier ++ r :: later) :
    commitCheck c = some r ↔ ¬TestPasses c r ∧ ∀ x ∈ earlier, TestPasses c x := by
  rw [commitCheck_eq_find?, find?_eq_some_iff_of_nodup h commitTests_nodup]
  rw [← testFails_false_iff c r, Bool.not_eq_false]
  simp only [testFails_false_iff]

/-- The commit check admits a set exactly if every test passes. -/
theorem commitCheck_eq_none_iff (c : Settings) : commitCheck c = none ↔ ∀ r ∈ commitTests, TestPasses c r := by
  rw [commitCheck_eq_find?, List.find?_eq_none]
  simp only [Bool.not_eq_true, testFails_false_iff]

/-- A legal set has an enabled rank. -/
theorem exists_enabled_of_commitCheck {c : Settings} (h : commitCheck c = none) : ∃ n : Rank, c.ranks[n].enable = true :=
  (commitCheck_eq_none_iff c).1 h .noRank (by decide)

/-- Where the windows end inside the space, no line number lies in two windows exactly if no line does. -/
theorem overlap_passes_iff {c : Settings} (hspace : TestPasses c .space) :
    TestPasses c .overlap ↔
      ∀ (n m : Rank) (line : LineAddr), c.ranks[n].holds line = true → c.ranks[m].holds line = true → n = m := by
  simp only [RankSettings.holds_iff]
  constructor
  · intro h n m line hn hm
    by_contra hne
    exact h n m hne hn.1 hm.1 line.toNat ⟨hn.2, hm.2⟩
  · intro h n m hne hn hm line hboth
    obtain ⟨hlow, hhigh⟩ := hboth
    have hend := hspace n hn
    have hval : (BitVec.ofNat 27 line).toNat = line := by
      rw [BitVec.toNat_ofNat, Nat.mod_eq_of_lt (by omega)]
    exact hne (h n m (BitVec.ofNat 27 line) ⟨hn, by rw [hval]; exact hlow⟩ ⟨hm, by rw [hval]; exact hhigh⟩)

/-- Settles O14: the commit check is the first failing test of Table 9-3, and the tests say together what a legal set is. -/
theorem commitCheckAdmitsLegalSets : Obligations.CommitCheckAdmitsLegalSets := by
  refine ⟨fun c earlier later r h => commitCheck_eq_some_iff c h, fun c => ?_⟩
  rw [commitCheck_eq_none_iff]
  constructor
  · intro h
    have pass : ∀ r ∈ commitTests, TestPasses c r := h
    have halign := pass .align (by decide)
    have hspace := pass .space (by decide)
    have hscrub := pass .scrub (by decide)
    exact ⟨fun n hn => ⟨halign n hn, hspace n hn⟩, (overlap_passes_iff hspace).1 (pass .overlap (by decide)),
      pass .noRank (by decide), pass .marks (by decide), pass .refresh (by decide), pass .urgent (by decide),
      (toNat_ne_zero_iff _).1 (pass .holdup (by decide)), (toNat_ne_zero_iff _).1 hscrub.1,
      (toNat_ne_zero_iff _).1 hscrub.2⟩
  · rintro ⟨hwindow, hoverlap, hrank, hmarks, hrefresh, hurgent, hholdup, hinterval, hthreshold⟩ r -
    have hspace : TestPasses c .space := fun n hn => (hwindow n hn).2
    cases r with
    | align => exact fun n hn => (hwindow n hn).1
    | space => exact hspace
    | overlap => exact (overlap_passes_iff hspace).2 hoverlap
    | noRank => exact hrank
    | marks => exact hmarks
    | refresh => exact hrefresh
    | urgent => exact hurgent
    | holdup => exact (toNat_ne_zero_iff _).2 hholdup
    | scrub => exact ⟨(toNat_ne_zero_iff _).2 hinterval, (toNat_ne_zero_iff _).2 hthreshold⟩
    | notRunning => trivial

end Sys2Proof.Machine

/-! # The ranks

Every effect keeps the debts, the corrected counts and the pointers of the ranks sound (R70, R78, R97, R101, R153), in a
state whose configuration and mode are sound. -/

namespace Sys2Proof.Machine

/-! ## Enabled ranks -/

theorem Settings.nextRank_enabled {c : Settings} {n m : Rank} (h : c.nextRank n = some m) : c.ranks[m].enable = true := by
  have := List.find?_some h
  rw [Bool.and_eq_true] at this
  exact this.2

theorem Settings.lowestRank_enabled {c : Settings} (h : ∃ n : Rank, c.ranks[n].enable = true) :
    c.ranks[c.lowestRank].enable = true := by
  obtain ⟨m, hm⟩ : ∃ m, [0, 1, 2, 3].find? (fun m : Rank => c.ranks[m].enable) = some m := by
    have hall : ∀ n : Rank, n ∈ ([0, 1, 2, 3] : List Rank) := by decide
    rw [← Option.isSome_iff_exists, List.find?_isSome]
    obtain ⟨n, hn⟩ := h
    exact ⟨n, hall n, hn⟩
  have hlow : m = c.lowestRank := by rw [Settings.lowestRank, hm, Option.getD_some]
  have henable : c.ranks[m].enable = true := List.find?_some (p := fun m : Rank => c.ranks[m].enable) hm
  subst hlow
  exact henable

theorem RankSettings.enable_of_holds {r : RankSettings} {line : LineAddr} (h : r.holds line = true) : r.enable = true :=
  ((RankSettings.holds_iff r line).1 h).1

theorem RankSize.lines_pos (z : RankSize) : 0 < z.lines := Nat.lt_of_lt_of_le (by decide) z.lines_bounds.1

/-- Line 0 of an enabled rank. -/
theorem PointerSound.first {c : Settings} {n : Rank} (h : c.ranks[n].enable = true) : PointerSound c n 0 :=
  ⟨h, RankSize.lines_pos _⟩

/-- The next line of a pointer's rank, while there is one. -/
theorem PointerSound.next {c : Settings} {n : Rank} {l : RankLine} (h : PointerSound c n l)
    (hl : l.toNat + 1 < c.ranks[n].size.lines) : PointerSound c n (l + 1) := by
  have hmax := (RankSize.lines_bounds c.ranks[n].size).2
  refine ⟨h.1, ?_⟩
  have hval : (l + 1).toNat = l.toNat + 1 := by
    rw [BitVec.toNat_add]
    exact Nat.mod_eq_of_lt (by simp; omega)
  rw [hval]
  exact hl

theorem State.advancePointer_sound {s : State} (h : PointerSound s.cfg.active s.scr.rank s.scr.line) :
    PointerSound s.cfg.active s.advancePointer.scr.rank s.advancePointer.scr.line := by
  unfold State.advancePointer
  split
  · rename_i hl
    exact h.next hl
  split
  · rename_i n hn
    exact .first (Settings.nextRank_enabled hn)
  · exact .first (Settings.lowestRank_enabled ⟨_, h.1⟩)

/-! ## Pointers, debts and counts that an operation leaves -/

theorem State.becomeRun_pointer (s : State) :
    s.becomeRun.scr.rank = s.scr.rank ∧ s.becomeRun.scr.line = s.scr.line ∧ s.becomeRun.mdc.mode ≠ .fill := by
  unfold State.becomeRun State.startScrub State.enterHoldup State.cancelCommit
  dsimp only
  repeat' split
  all_goals exact ⟨rfl, rfl, nofun⟩

theorem State.startTicks_debt (s : State) (n : Rank) : s.startTicks.rfs[n].debt = s.rfs[n].debt := by
  simp only [State.startTicks, Fin.getElem_fin, Vector.getElem_ofFn]

theorem getElem_set_of_ne {α : Type} (v : Vector α 4) {r n : Rank} (h : n ≠ r) (x : α) : (v.set r x)[n] = v[n] :=
  Vector.getElem_set_ne _ _ (Fin.val_ne_of_ne h.symm)

theorem State.depart_chk (s : State) (e : Entry) (rest : List Entry) (r : Rank) (l : RankLine) :
    (s.depart e rest r l).chk =
      s.chk.set r (addSaturating s.chk[r] (countWords (s.partialFound e r l .corrected))) := by
  unfold State.depart
  simp [State.finishWords]

theorem State.finishRead_chk (s : State) (x : ReadRecord) (r : Rank) (l : RankLine) :
    (s.finishRead x r l).chk = s.chk.set r (addSaturating s.chk[r] (countWords (s.wordsFound r l .corrected))) := by
  unfold State.finishRead
  simp

theorem State.finishScrub_chk (s : State) (r : Rank) (l : RankLine) :
    (s.finishScrub r l).chk = s.chk.set r (addSaturating s.chk[r] (countWords (s.wordsFound r l .corrected))) := by
  unfold State.finishScrub
  simp [State.finishWords]

/-! ## Sound ranks -/

/-- The clauses of RanksSound, by name. -/
structure RankFacts (s : State) : Prop where
  debt : ∀ n : Rank, s.rfs[n].debt ≤ 8
  off : ∀ n : Rank, s.cfg.active.ranks[n].enable = false → s.rfs[n].debt = 0 ∧ s.chk[n] = 0
  cycle : ∀ n : Rank, s.seq.cycle.bind Cycle.rank = some n → s.cfg.active.ranks[n].enable = true
  owed : ∀ n : Rank, s.seq.cycle = some (.refresh n) → 1 ≤ s.rfs[n].debt
  scrub : PointerSound s.cfg.active s.scr.rank s.scr.line
  fill : s.mdc.mode = .fill → PointerSound s.cfg.active s.mdc.fillRank s.mdc.fillLine

theorem ranksSound_iff (s : State) : RanksSound s ↔ RankFacts s :=
  ⟨fun ⟨a, b, c, d, e, f⟩ => ⟨a, b, c, d, e, f⟩, fun ⟨a, b, c, d, e, f⟩ => ⟨a, b, c, d, e, f⟩⟩

namespace RankFacts

variable {s t : State}

/-- A rank that owes a refresh is enabled. -/
theorem enabled_of_debt (h : RankFacts s) {n : Rank} (hd : 1 ≤ s.rfs[n].debt) : s.cfg.active.ranks[n].enable = true := by
  by_contra hn
  rw [Bool.not_eq_true] at hn
  rw [(h.off n hn).1] at hd
  omega

theorem begin_cycle (h : RankFacts s) {c : Cycle} (hrank : ∀ n, c.rank = some n → s.cfg.active.ranks[n].enable = true)
    (howed : ∀ n, c = .refresh n → 1 ≤ s.rfs[n].debt) : RankFacts (s.startCycle c) :=
  { h with
    cycle := hrank
    owed := fun n hc => howed n (Option.some.inj hc) }

theorem end_cycle (h : RankFacts s) : RankFacts s.endCycle := { h with cycle := nofun, owed := nofun }

/-- A completion that adds to the corrected count of its cycle's rank. -/
theorem end_counting (h : RankFacts s) {c : Cycle} {r : Rank} {x : BitVec 16} (hc : s.seq.cycle = some c)
    (hr : c.rank = some r) : RankFacts { s.endCycle with chk := s.chk.set r x } := by
  refine { h.end_cycle with off := fun n hn => ?_ }
  have hne : n ≠ r := by
    rintro rfl
    exact absurd (h.cycle n (by rw [hc]; exact hr)) (ne_true_of_eq_false hn)
  exact ⟨(h.off n hn).1, (getElem_set_of_ne s.chk hne x).trans (h.off n hn).2⟩

theorem depart (h : RankFacts s) {e : Entry} {rest : List Entry} {r : Rank} {l : RankLine}
    (hhead : WritingHead s e rest r l) : RankFacts (s.depart e rest r l) := by
  obtain ⟨-, -, hc | hc⟩ := hhead <;>
  · have hend := h.end_counting (x := addSaturating s.chk[r] (countWords (s.partialFound e r l .corrected))) hc rfl
    rw [State.depart_frame, State.depart_chk]
    exact { hend with }

theorem finishRead (h : RankFacts s) (x : ReadRecord) {r : Rank} {l : RankLine} (hc : s.seq.cycle = some (.lineRead r l)) :
    RankFacts (s.finishRead x r l) := by
  have hend := h.end_counting (x := addSaturating s.chk[r] (countWords (s.wordsFound r l .corrected))) hc rfl
  rw [State.finishRead_frame, State.finishRead_chk]
  exact { hend with }

theorem finishScrub (h : RankFacts s) {r : Rank} {l : RankLine} (hc : s.seq.cycle = some (.scrub r l)) :
    RankFacts (s.finishScrub r l) := by
  have hend := h.end_counting (x := addSaturating s.chk[r] (countWords (s.wordsFound r l .corrected))) hc rfl
  have hptr : PointerSound s.cfg.active (s.finishScrub r l).scr.rank (s.finishScrub r l).scr.line := by
    have hcounted : ∀ u : State, u.cfg = s.cfg → u.scr = s.scr →
        PointerSound s.cfg.active u.advancePointer.scr.rank u.advancePointer.scr.line := by
      intro u hcfg hscr
      rw [← hcfg]
      exact State.advancePointer_sound (by rw [hcfg, hscr]; exact h.scrub)
    unfold State.finishScrub
    exact hcounted _ (by simp [State.finishWords]) (by simp [State.finishWords])
  rw [State.finishScrub_frame, State.finishScrub_chk]
  exact { hend with scrub := hptr }

theorem payDebt (h : RankFacts s) (n : Rank) : RankFacts (s.payDebt n).endCycle := by
  have hpaid : ∀ m : Rank, (s.payDebt n).rfs[m].debt ≤ s.rfs[m].debt := by
    intro m
    by_cases hm : m = n
    · subst hm
      simp [State.payDebt]
    · exact le_of_eq (congrArg RankRefresh.debt (getElem_set_of_ne s.rfs hm _))
  exact { h.end_cycle with
    debt := fun m => (hpaid m).trans (h.debt m)
    off := fun m hm => ⟨Nat.le_zero.1 ((h.off m hm).1 ▸ hpaid m), (h.off m hm).2⟩
    owed := nofun }

theorem becomeRun (h : RankFacts s) : RankFacts s.becomeRun := by
  obtain ⟨hrank, hline, hmode⟩ := s.becomeRun_pointer
  have hactive := s.becomeRun_active
  rw [State.becomeRun_frame]
  refine ⟨h.debt, fun n hn => h.off n ?_, fun n hn => ?_, h.owed, ?_, fun hm => absurd hm hmode⟩
  · rw [← hactive]; exact hn
  · change s.becomeRun.cfg.active.ranks[n].enable = true
    rw [hactive]
    exact h.cycle n hn
  · change PointerSound s.becomeRun.cfg.active s.becomeRun.scr.rank s.becomeRun.scr.line
    rw [hactive, hrank, hline]
    exact h.scrub

theorem startTicks (h : RankFacts s) : RankFacts s.startTicks :=
  { h with
    debt := fun n => by rw [State.startTicks_debt]; exact h.debt n
    off := fun n hn => by rw [State.startTicks_debt]; exact h.off n hn
    owed := fun n hc => by rw [State.startTicks_debt]; exact h.owed n hc }

theorem endInit (h : RankFacts s) : RankFacts s.endInit := by
  have hready : RankFacts s.startTicks.raiseReady := { h.startTicks with }
  unfold State.endInit
  dsimp only
  split
  · exact hready.becomeRun
  · exact { hready with fill := fun _ => .first (Settings.lowestRank_enabled ⟨_, h.scrub.1⟩) }

theorem clearDebts (h : RankFacts s) (hidle : s.seq.cycle = none) : RankFacts s.clearDebts := by
  have hzero : ∀ n : Rank, s.clearDebts.rfs[n].debt = 0 := by
    intro n
    simp only [State.clearDebts, Fin.getElem_fin, Vector.getElem_map]
  exact { h with
    debt := fun n => by rw [hzero]; omega
    off := fun n hn => ⟨hzero n, (h.off n hn).2⟩
    owed := fun n hc => nomatch hidle.symm.trans hc }

theorem finishExit (h : RankFacts s) (hidle : s.seq.cycle = none) : RankFacts s.finishExit := by
  unfold State.finishExit
  split
  · exact (h.clearDebts hidle).startTicks.becomeRun
  · exact h.endInit
  all_goals exact h

theorem advanceFill (h : RankFacts s) (hmode : s.mdc.mode = .fill) : RankFacts s.advanceFill := by
  unfold State.advanceFill
  split
  · rename_i hl
    exact { h with fill := fun _ => (h.fill hmode).next hl }
  split
  · rename_i n hn
    exact { h with fill := fun _ => .first (Settings.nextRank_enabled hn) }
  · exact RankFacts.becomeRun { h with }

theorem finishEntry (h : RankFacts s) : RankFacts s.finishEntry := by
  have hheld : ∀ n : Rank, s.finishEntry.rfs[n].debt = s.rfs[n].debt := by
    intro n
    simp only [State.finishEntry, State.setMode, State.stopTicks, Fin.getElem_fin, Vector.getElem_map]
    rfl
  refine { h.end_cycle with debt := fun n => by rw [hheld]; exact h.debt n
                            off := fun n hn => by rw [hheld]; exact h.off n hn
                            owed := nofun, fill := fun hm => ?_ }
  change (if s.pins.pwarn then Mode.retain else .resume) = .fill at hm
  split at hm <;> cases hm

theorem tick (h : RankFacts s) {n : Rank} {d : Time} (hn : s.cfg.active.ranks[n].enable = true) : RankFacts (s.tick n d) := by
  have hdebt : ∀ m : Rank, s.rfs[m].debt ≤ (s.tickedRanks n d)[m].debt ∧ (s.tickedRanks n d)[m].debt ≤ 8 := by
    intro m
    by_cases hm : m = n
    · subst hm
      have h8 := h.debt m
      rw [State.tickedRanks_self, RankRefresh.ticked]
      dsimp only
      split <;> omega
    · rw [State.tickedRanks_of_ne hm]
      exact ⟨Nat.le_refl _, h.debt m⟩
  rw [State.tick_eq]
  refine { h with debt := fun m => (hdebt m).2, off := fun m hm => ?_, owed := fun m hc => (h.owed m hc).trans (hdebt m).1 }
  have hne : m ≠ n := by
    rintro rfl
    exact absurd hn (ne_true_of_eq_false hm)
  refine ⟨?_, (h.off m hm).2⟩
  exact (congrArg RankRefresh.debt (State.tickedRanks_of_ne hne)).trans (h.off m hm).1

theorem applyCommit (h : RankFacts s) (hlegal : commitCheck s.cfg.staged = none) (hmode : s.mdc.mode = .run)
    (hidle : s.seq.cycle = none) : RankFacts s.applyCommit := by
  have hdebt : ∀ n : Rank, s.applyCommit.rfs[n].debt =
      if rankUnchanged s.cfg.active s.cfg.staged n then s.rfs[n].debt else 0 := by
    intro n
    simp only [State.applyCommit, Fin.getElem_fin, Vector.getElem_ofFn, refreshAtCommit]
    split <;> rfl
  have hchk : ∀ n : Rank, s.applyCommit.chk[n] = if rankUnchanged s.cfg.active s.cfg.staged n then s.chk[n] else 0 := by
    intro n
    simp only [State.applyCommit, Fin.getElem_fin, Vector.getElem_ofFn]
  have hscr : ∀ x, (scrubTimerAtCommit s.cfg.active s.cfg.staged s.now x).rank = x.rank ∧
      (scrubTimerAtCommit s.cfg.active s.cfg.staged s.now x).line = x.line := by
    intro x
    unfold scrubTimerAtCommit
    split
    · split <;> exact ⟨rfl, rfl⟩
    · exact ⟨rfl, rfl⟩
  refine ⟨fun n => ?_, fun n hn => ?_, fun n hc => ?_, fun n hc => (nomatch hidle.symm.trans hc), ?_, fun hm => ?_⟩
  · rw [hdebt]
    split
    · exact h.debt n
    · omega
  · have hn' : s.cfg.staged.ranks[n].enable = false := hn
    have hchanged : rankUnchanged s.cfg.active s.cfg.staged n = false := by
      rw [← Bool.not_eq_true, rankUnchanged_iff]
      exact fun hu => absurd hu.2.1 (ne_true_of_eq_false hn')
    rw [hdebt, hchk, hchanged]
    exact ⟨rfl, rfl⟩
  · change s.seq.cycle.bind Cycle.rank = some n at hc
    rw [hidle] at hc
    cases hc
  · change PointerSound s.cfg.staged s.applyCommit.scr.rank s.applyCommit.scr.line
    unfold State.applyCommit scrubPointerAtCommit
    dsimp only
    split
    · rename_i hu
      rw [(hscr _).1] at hu
      obtain ⟨-, hnew, -, hsize⟩ := (rankUnchanged_iff _ _ _).1 hu
      rw [(hscr _).1, (hscr _).2]
      exact ⟨hnew, hsize ▸ h.scrub.2⟩
    · exact .first (Settings.lowestRank_enabled (exists_enabled_of_commitCheck hlegal))
  · change s.mdc.mode = .fill at hm
    rw [hmode] at hm
    cases hm

/-- A state right after a reset: rank 0 is enabled by every strap setting. -/
theorem of_reset {st : Straps} (hmode : t.mdc.mode = .init) (hidle : t.seq.cycle = none) (hrfs : t.rfs = refreshAtReset)
    (hchk : t.chk = Vector.replicate 4 0) (hscr : t.scr = scrubberAtReset) (hcfg : t.cfg = configAtReset st) :
    RankFacts t := by
  have hzero : ∀ n : Rank, t.rfs[n].debt = 0 := by
    intro n
    rw [hrfs]
    simp only [refreshAtReset, Fin.getElem_fin, Vector.getElem_replicate]
  refine ⟨fun n => by rw [hzero]; omega, fun n _ => ⟨hzero n, by rw [hchk]; simp⟩, fun n hc => ?_, fun n hc => ?_, ?_,
    fun hm => ?_⟩
  · rw [hidle] at hc; cases hc
  · rw [hidle] at hc; cases hc
  · rw [hcfg, hscr]
    exact .first (by simp [configAtReset, strapDerived, scrubberAtReset])
  · rw [hmode] at hm; cases hm

end RankFacts

theorem Effect.rankFacts {s t : State} (hcfg : ConfigSound s) (hmode : ModeFacts s) (h : RankFacts s) (he : Effect s t) :
    RankFacts t := by
  cases he with
  | nothing | passTime | coalesce | append | addRecord | raiseFence | ripen | scrubExpiry | popLog | clearOverflow | warn
  | unwarn | releaseReset | setMask | stage | flip => exact { h with }
  | grantPowerUp | grantExit => exact h.begin_cycle (by simp [Cycle.rank]) (by simp)
  | grantEntry => exact RankFacts.begin_cycle (s := s.setCondition .selfRefresh) { h with } (by simp [Cycle.rank]) (by simp)
  | grantRefresh n hwork hdebt =>
    exact h.begin_cycle (fun m hm => by cases hm; exact h.enabled_of_debt hdebt) fun m hm => by cases hm; exact hdebt
  | grantDrain e rest r hwork hpq hrank =>
    have hr := RankSettings.enable_of_holds (Settings.holds_of_rankOf hrank)
    refine RankFacts.begin_cycle (s := { s with pq := e.granted :: rest }) { h with } (fun m hm => ?_) fun m hm => ?_ <;>
      unfold Entry.drainCycle at hm <;> split at hm <;> cases hm
    · exact hr
    · exact hr
  | grantRead older younger x r hwork _ _ _ hrank =>
    have hr := RankSettings.enable_of_holds (Settings.holds_of_rankOf hrank)
    exact RankFacts.begin_cycle (s := { s with rt := older ++ { x with state := .reading } :: younger })
      (c := .lineRead r (s.cfg.active.rankLine r x.line)) { h with } (fun m hm => by cases hm; exact hr) (by simp)
  | grantFill hwork hfill => exact h.begin_cycle (c := .fill s.mdc.fillRank s.mdc.fillLine) (fun m hm => by cases hm; exact (h.fill hfill).1) (by simp)
  | grantScrub hwork =>
    exact RankFacts.begin_cycle (s := { s with scr := { s.scr with due := false } }) (c := .scrub s.scr.rank s.scr.line)
      { h with } (fun m hm => by cases hm; exact h.scrub.1) (by simp)
  | depart e rest r l hhead => exact h.depart hhead
  | finishRead x r l hc => exact h.finishRead x hc
  | finishRefresh n hc => exact h.payDebt n
  | finishScrub r l hc => exact h.finishScrub hc
  | finishFill r l hc =>
    exact RankFacts.advanceFill (s := s.finishWords.endCycle) { h.end_cycle with } (hmode.cycle _ hc)
  | finishPowerUp =>
    have hend : RankFacts (s.endCycle.setCondition .active) := { h.end_cycle with }
    unfold State.afterModeOperation
    split
    · exact hend.endInit
    · exact hend
  | finishEntry => exact h.finishEntry
  | finishExit => exact RankFacts.finishExit (s := s.endCycle.setCondition .active) { h.end_cycle with } rfl
  | tick n d ht =>
    have hrun := hmode.ticks n
    rw [ht, Timer.isRunning, eq_comm, Bool.and_eq_true] at hrun
    exact h.tick hrun.1
  | holdupExpiry => rw [State.expireHoldup_frame]; exact { h with }
  | warnInRun =>
    have hactive := (s.setPwarn true).enterHoldup_active
    rw [State.enterHoldup_frame]
    refine ⟨h.debt, fun n hn => h.off n ?_, fun n hn => ?_, h.owed, ?_, nofun⟩
    · rw [← hn]; exact congrArg (fun c : Settings => c.ranks[n].enable) hactive.symm
    · exact (congrArg (fun c : Settings => c.ranks[n].enable) hactive).trans (h.cycle n hn)
    · change PointerSound (s.setPwarn true).enterHoldup.cfg.active s.scr.rank s.scr.line
      rw [hactive]
      exact h.scrub
  | returnToRun =>
    have hptr : (s.setPwarn false).returnToRun.scr.rank = s.scr.rank ∧
        (s.setPwarn false).returnToRun.scr.line = s.scr.line := by
      unfold State.returnToRun State.startScrub
      split <;> exact ⟨rfl, rfl⟩
    rw [State.returnToRun_frame]
    refine { h with scrub := ?_, fill := nofun }
    change PointerSound s.cfg.active (s.setPwarn false).returnToRun.scr.rank (s.setPwarn false).returnToRun.scr.line
    rw [hptr.1, hptr.2]
    exact h.scrub
  | resume => exact { h with fill := nofun }
  | applyCommit hpending hquiet =>
    simp only [State.quiet, Bool.and_eq_true, State.idle, Option.isNone_iff_eq_none] at hquiet
    exact h.applyCommit (hcfg.2 hpending) (hmode.pending hpending) hquiet.2
  | powerOn p => exact .of_reset (st := p.straps) rfl rfl rfl rfl rfl rfl
  | externalReset st | maintenanceReset st =>
    rw [State.warmReset_frame]
    exact .of_reset (st := st) rfl rfl rfl rfl rfl rfl
  | flush => rcases s.takeFlush_cases with ht | ⟨-, -, ht⟩ | ⟨-, -, ht⟩ <;> rw [ht] <;> exact { h with }
  | clearCorrected n =>
    refine { h with off := fun m hm => ⟨(h.off m hm).1, ?_⟩ }
    by_cases hne : m = n
    · subst hne; simp
    · exact (getElem_set_of_ne s.chk hne 0).trans (h.off m hm).2
  | commit =>
    have hactive := s.takeCommit_active
    rw [State.takeCommit_frame]
    refine ⟨h.debt, ?_, ?_, h.owed, ?_, ?_⟩ <;> dsimp only <;> rw [hactive]
    exacts [h.off, h.cycle, h.scrub, h.fill]
  | abort =>
    have hactive := s.takeAbort_active
    rw [State.takeAbort_frame]
    refine ⟨h.debt, ?_, ?_, h.owed, ?_, ?_⟩ <;> dsimp only <;> rw [hactive]
    exacts [h.off, h.cycle, h.scrub, h.fill]

theorem RankFacts.of_sameBlocks {s t : State} (hb : SameBlocks s t) (h : RankFacts s) : RankFacts t := by
  rw [hb.eq]
  exact { h with }

/-- Settles O13: every step keeps the configuration, the mode and the ranks sound together. -/
theorem stepKeepsRanksSound : Obligations.StepKeepsRanksSound := by
  intro s t hcfg hmode hranks hstep
  have kept := step_keeps (P := fun u => ConfigSound u ∧ ModeFacts u ∧ RankFacts u)
    (fun hb ⟨hc, hm, hr⟩ => ⟨hc.of_cfg hb.cfg, .of_sameBlocks hb hm, .of_sameBlocks hb hr⟩)
    (fun ⟨hc, hm, hr⟩ he => ⟨he.configSound hc, he.modeFacts hm, he.rankFacts hc hm hr⟩) s t
    ⟨hcfg, (modeSound_iff s).1 hmode, (ranksSound_iff s).1 hranks⟩ hstep
  exact (ranksSound_iff t).2 kept.2.2

end Sys2Proof.Machine

/-! # The step, the reset state and the short events

The step itself, the state right after a power-on reset, the fault log taking an event, the completion of a REFRESH and
the expiries of the age and scrub timers. -/

namespace Sys2Proof.Machine

/-! ## The step -/

/-- Settles O1: the step hands the front command to `exec` with the rest waiting. -/
theorem stepTakesFrontCommand : Obligations.StepTakesFrontCommand := fun _ _ => rfl

theorem step_of_nil {s : State} (h : s.pending = []) : step s = .next s.idleTick := by
  simp only [step, h]

/-- Settles O2: the idle step is `idleTick`, whose only condition is an expiry that is due. -/
theorem idleStepPassesTime : Obligations.IdleStepPassesTime := by
  intro s h
  rw [step_of_nil h]
  exact ⟨fun hdue => congrArg Host.Outcome.next (if_neg (ne_true_of_eq_false hdue)),
    fun hdue => congrArg Host.Outcome.next (if_pos hdue)⟩

/-! ## The state after a power-on reset -/

/-- Settles O3: the reset values of the blocks, read off one by one. -/
theorem resetLeavesSpecValues : Obligations.ResetLeavesSpecValues :=
  ⟨rfl, rfl, rfl, rfl, rfl, rfl, fun _ => Vector.getElem_replicate _, rfl, fun _ => Vector.getElem_replicate _,
    fun _ => Vector.getElem_replicate _, rfl, rfl, rfl, rfl, rfl, rfl, rfl, rfl, rfl, rfl, rfl, rfl, rfl, rfl, rfl, rfl,
    rfl, rfl, rfl, rfl⟩

/-- Settles O4: each block's reset values are sound. -/
theorem resetIsSound : Obligations.ResetIsSound := by
  refine ⟨.of_empty rfl rfl, .of_reset rfl rfl, .of_empty rfl rfl, FaultLog.Sound.atReset, rfl, .of_reset rfl rfl rfl rfl,
    .of_reset (st := resetStraps) rfl, (modeSound_iff _).2 ?_, (ranksSound_iff _).2 ?_⟩
  · exact .of_reset (st := resetStraps) rfl rfl rfl rfl rfl rfl rfl rfl rfl rfl rfl
  · exact .of_reset (st := resetStraps) rfl rfl rfl rfl rfl rfl

/-! ## The fault log (R111 to R115) -/

theorem someEnabled_iff (mask : BitVec 6) (rs : List FaultRecord) :
    someEnabled mask rs = true ↔ ∃ x ∈ rs, enabledIn mask x.event = true := List.any_eq_true

theorem FaultLog.take_of_room {f : FaultLog} (h : f.records.length < 8) (e : FaultEvent) :
    f.take e = { f with
      records := f.records ++ [{ number := f.next, event := e }], next := f.next + 1
      line := f.line || enabledIn f.mask e } := if_pos h

theorem FaultLog.take_of_full {f : FaultLog} (h : 8 ≤ f.records.length) (e : FaultEvent) :
    f.take e = { f with next := f.next + 1, overflow := true } := if_neg (Nat.not_lt.2 h)

/-- Settles O32: the bit of each kind, the meaning of `someEnabled`, and the log with and without room. -/
theorem faultTakenIntoLog : Obligations.FaultTakenIntoLog :=
  ⟨fun _ _ _ _ _ _ _ => ⟨rfl, rfl, rfl, rfl, rfl, rfl⟩, someEnabled_iff,
    fun _ e => ⟨fun h => FaultLog.take_of_room h e, fun h => FaultLog.take_of_full h e⟩⟩

/-! ## The completion of a REFRESH (R83) -/

theorem exec_refreshCompletion_of_refresh {s : State} {n : Rank} (h : s.seq.cycle = some (.refresh n)) :
    exec .refreshCompletion s = .next (s.beginEvent.payDebt n).endCycle := by
  show execRefreshCompletion s = _
  simp only [execRefreshCompletion, State.beginEvent_seq, h]

/-- Settles O40: the completion pays one unit of the rank's own debt. -/
theorem refreshCompletionPaysDebt : Obligations.RefreshCompletionPaysDebt := fun s n h =>
  ⟨(s.payDebt n).rfs, exec_refreshCompletion_of_refresh h, Vector.getElem_set_self _, fun _ hm => getElem_set_of_ne s.rfs hm _⟩

/-! ## The age and scrub timers (R6, R102) -/

theorem Entry.ripened_of_due {e : Entry} {d now : Time} (ht : e.timer = .running d) (hd : d ≤ now) :
    e.ripened now = { e with ripe := true, timer := .stopped } := by
  have hdue : e.timer.due now = true := by rw [ht]; exact decide_eq_true hd
  exact if_pos hdue

/-- A modification at the place just past a list changes the next element alone. -/
theorem modify_append_cons {α : Type} (f : α → α) (x : α) (younger : List α) :
    ∀ older : List α, (older ++ x :: younger).modify older.length f = older ++ f x :: younger
  | [] => rfl
  | y :: older => congrArg (y :: ·) (modify_append_cons f x younger older)

theorem exec_scrubTimerExpiry_of_due {s : State} {d : Time} (ht : s.scr.timer = .running d) (hd : d ≤ s.now) :
    exec .scrubTimerExpiry s = .next { s.beginEvent with
      scr := { s.scr with due := true, timer := .running (d + s.cfg.active.scrubTime) } } := by
  show execScrubTimerExpiry s = _
  simp only [execScrubTimerExpiry, State.beginEvent_scr, State.beginEvent_now, ht, hd, if_true, State.beginEvent_cfg]

/-- Settles O47: an expiry that has come ripens its entry, or sets the due flag and the next expiry. -/
theorem ageAndScrubTimersExpire : Obligations.AgeAndScrubTimersExpire := by
  refine ⟨fun s older younger e i d hpq hi ht hd => ?age, fun s d ht hd => exec_scrubTimerExpiry_of_due ht hd⟩
  have hmod : s.pq.modify i.val (fun e => e.ripened s.now) =
      older ++ { e with ripe := true, timer := .stopped } :: younger := by
    rw [hpq, ← hi, modify_append_cons, Entry.ripened_of_due ht hd]
  exact congrArg (fun q => Host.Outcome.next { s.beginEvent with pq := q }) hmod

end Sys2Proof.Machine

/-! # The request port

The gates of READ and FENCE, row by row as the gate of a WRITE is given above, what each owner makes of a request that
passes its gate, and from both the answers of the request port (R8 to R12, R27 to R31, R45 to R47, R158 to R160). -/

namespace Sys2Proof.Machine

/-! ## The gates of READ and FENCE (Tables 2-3 and 3-2) -/

section Gates

variable {s : State}

theorem State.readGate_of_not_portReady (hp : s.pins.portReady = false) : s.readGate = .notTaken := by
  simp [State.readGate, hp]

theorem State.readGate_of_committing (hp : s.pins.portReady = true) (hm : s.mdc.mode = .run) (hc : s.cfg.pending = true) :
    s.readGate = .answered (.retry .committing) := by
  simp [State.readGate, hp, hm, hc]

theorem State.readGate_of_fill (hp : s.pins.portReady = true) (hm : s.mdc.mode = .fill) :
    s.readGate = .answered (.retry .filling) := by
  simp [State.readGate, hp, hm]

theorem State.readGate_of_resume (hp : s.pins.portReady = true) (hm : s.mdc.mode = .resume) :
    s.readGate = .answered (.retry .resuming) := by
  simp [State.readGate, hp, hm]

theorem State.readGate_of_retain (hp : s.pins.portReady = true) (hm : s.mdc.mode = .retain) :
    s.readGate = .answered (.refuse .halted) := by
  simp [State.readGate, hp, hm]

theorem State.readGate_of_open (hp : s.pins.portReady = true)
    (hm : s.mdc.mode = .run ∧ s.cfg.pending = false ∨ s.mdc.mode = .holdup) : s.readGate = .taken := by
  rcases hm with ⟨hm, hc⟩ | hm
  · simp [State.readGate, hp, hm, hc]
  · simp [State.readGate, hp, hm]

theorem State.fenceGate_of_not_portReady (hp : s.pins.portReady = false) : s.fenceGate = .notTaken := by
  simp [State.fenceGate, hp]

theorem State.fenceGate_of_fill (hp : s.pins.portReady = true) (hm : s.mdc.mode = .fill) :
    s.fenceGate = .answered (.retry .filling) := by
  simp [State.fenceGate, hp, hm]

theorem State.fenceGate_of_resume (hp : s.pins.portReady = true) (hm : s.mdc.mode = .resume) :
    s.fenceGate = .answered (.retry .resuming) := by
  simp [State.fenceGate, hp, hm]

theorem State.fenceGate_of_retain (hp : s.pins.portReady = true) (hm : s.mdc.mode = .retain) :
    s.fenceGate = .answered (.refuse .halted) := by
  simp [State.fenceGate, hp, hm]

theorem State.fenceGate_of_open (hp : s.pins.portReady = true) (hm : s.mdc.mode = .run ∨ s.mdc.mode = .holdup) :
    s.fenceGate = .taken := by
  rcases hm with hm | hm <;> simp [State.fenceGate, hp, hm]

end Gates

/-! ## A request, by the gate it meets -/

section ByGate

variable {m : Request} {s : State} {a : Answer}

theorem exec_write (m : Request) (s : State) :
    exec (.write m) s = .next (s.beginEvent.gated s.writeGate 0 m fun u => u.takeWrite m) := rfl

theorem exec_read (m : Request) (s : State) :
    exec (.read m) s = .next (s.beginEvent.gated s.readGate 1 m fun u => u.takeRead m) := rfl

theorem exec_fence (m : Request) (s : State) :
    exec (.fence m) s = .next (s.beginEvent.gated s.fenceGate 2 m fun u => u.takeFence m) := rfl

theorem exec_write_of_notTaken (hg : s.writeGate = .notTaken) : exec (.write m) s = .next (s.sending [] []) := by
  rw [exec_write, hg]; rfl

theorem exec_write_of_answered (hg : s.writeGate = .answered a) :
    exec (.write m) s = .next (s.sending [responseTo 0 m a] []) := by
  rw [exec_write, hg]; rfl

theorem exec_write_of_taken (hg : s.writeGate = .taken) : exec (.write m) s = .next (s.beginEvent.takeWrite m) := by
  rw [exec_write, hg]; rfl

theorem exec_read_of_notTaken (hg : s.readGate = .notTaken) : exec (.read m) s = .next (s.sending [] []) := by
  rw [exec_read, hg]; rfl

theorem exec_read_of_answered (hg : s.readGate = .answered a) :
    exec (.read m) s = .next (s.sending [responseTo 1 m a] []) := by
  rw [exec_read, hg]; rfl

theorem exec_read_of_taken (hg : s.readGate = .taken) : exec (.read m) s = .next (s.beginEvent.takeRead m) := by
  rw [exec_read, hg]; rfl

theorem exec_fence_of_notTaken (hg : s.fenceGate = .notTaken) : exec (.fence m) s = .next (s.sending [] []) := by
  rw [exec_fence, hg]; rfl

theorem exec_fence_of_answered (hg : s.fenceGate = .answered a) :
    exec (.fence m) s = .next (s.sending [responseTo 2 m a] []) := by
  rw [exec_fence, hg]; rfl

theorem exec_fence_of_taken (hg : s.fenceGate = .taken) : exec (.fence m) s = .next (s.beginEvent.takeFence m) := by
  rw [exec_fence, hg]; rfl

end ByGate

/-- Settles O17: each row of the three mode tables gives a gate, and the gate gives the answer. -/
theorem requestsAnsweredByMode : Obligations.RequestsAnsweredByMode := by
  intro m s
  refine ⟨fun hp => ⟨?_, ?_, ?_⟩, fun hp hm hc => ⟨?_, ?_⟩, fun hp hm => ⟨?_, ?_, ?_⟩, fun hp hm => ⟨?_, ?_, ?_⟩,
    fun hp hm => ?_, fun hp hm => ⟨?_, ?_, ?_⟩⟩
  · exact exec_write_of_notTaken (State.writeGate_of_not_portReady hp)
  · exact exec_read_of_notTaken (State.readGate_of_not_portReady hp)
  · exact exec_fence_of_notTaken (State.fenceGate_of_not_portReady hp)
  · exact exec_write_of_answered (State.writeGate_of_committing hp hm hc)
  · exact exec_read_of_answered (State.readGate_of_committing hp hm hc)
  · exact exec_write_of_answered (State.writeGate_of_fill hp hm)
  · exact exec_read_of_answered (State.readGate_of_fill hp hm)
  · exact exec_fence_of_answered (State.fenceGate_of_fill hp hm)
  · exact exec_write_of_answered (State.writeGate_of_resume hp hm)
  · exact exec_read_of_answered (State.readGate_of_resume hp hm)
  · exact exec_fence_of_answered (State.fenceGate_of_resume hp hm)
  · exact exec_write_of_answered (State.writeGate_of_halted hp (.inl hm))
  · exact exec_write_of_answered (State.writeGate_of_halted hp (.inr hm))
  · exact exec_read_of_answered (State.readGate_of_retain hp hm)
  · exact exec_fence_of_answered (State.fenceGate_of_retain hp hm)

/-! ## A WRITE that is taken (R9 to R12) -/

section TakeWrite

variable {s : State} {m : Request}

theorem not_mapped_false_iff (c : Settings) (line : LineAddr) : (!c.mapped line) = false ↔ ∃ n, c.rankOf line = some n := by
  rw [Bool.not_eq_false', Settings.mapped_iff]

theorem not_mapped_of_none {c : Settings} {line : LineAddr} (h : c.rankOf line = none) : (!c.mapped line) = true := by
  simp [Settings.mapped, h]

theorem any_coalescesInto_false (h : ∀ e ∈ s.pq, ¬(e.isOpen = true ∧ e.source = m.source ∧ e.line = m.line)) :
    s.pq.any (coalescesInto m) = false := by
  rw [List.any_eq_false]
  exact fun e he hc => h e he ((coalescesInto_iff m e).1 hc)

theorem State.takeWrite_of_empty (hmask : m.mask = 0) : s.takeWrite m = s.answer 0 m (.refuse .malformed) := if_pos hmask

theorem State.takeWrite_of_unmapped (hmask : m.mask ≠ 0) (hline : s.cfg.active.rankOf m.line = none) :
    s.takeWrite m = s.answer 0 m (.refuse .unmapped) := by
  rw [State.takeWrite, if_neg hmask, if_pos (not_mapped_of_none hline)]

theorem State.takeWrite_of_mapped (hmask : m.mask ≠ 0) (hline : ∃ n, s.cfg.active.rankOf m.line = some n) :
    s.takeWrite m =
      if s.pq.any (coalescesInto m) then (s.coalesce m).answer 0 m .wack
      else if s.occupancy < 16 then (s.append m).answer 0 m .wack
      else s.answer 0 m (.retry .full) := by
  rw [State.takeWrite, if_neg hmask, if_neg (ne_true_of_eq_false ((not_mapped_false_iff _ _).2 hline))]

theorem State.takeWrite_of_open (hmask : m.mask ≠ 0) (hline : ∃ n, s.cfg.active.rankOf m.line = some n) {e : Entry}
    (he : e ∈ s.pq) (hc : coalescesInto m e = true) : s.takeWrite m = (s.coalesce m).answer 0 m .wack := by
  rw [State.takeWrite_of_mapped hmask hline, if_pos (List.any_eq_true.2 ⟨e, he, hc⟩)]

theorem State.takeWrite_of_room (hmask : m.mask ≠ 0) (hline : ∃ n, s.cfg.active.rankOf m.line = some n)
    (hnone : ∀ e ∈ s.pq, ¬(e.isOpen = true ∧ e.source = m.source ∧ e.line = m.line)) (hroom : s.pq.length < 16) :
    s.takeWrite m = (s.append m).answer 0 m .wack := by
  rw [State.takeWrite_of_mapped hmask hline, if_neg (ne_true_of_eq_false (any_coalescesInto_false hnone))]
  exact if_pos hroom

theorem State.takeWrite_of_full (hmask : m.mask ≠ 0) (hline : ∃ n, s.cfg.active.rankOf m.line = some n)
    (hnone : ∀ e ∈ s.pq, ¬(e.isOpen = true ∧ e.source = m.source ∧ e.line = m.line)) (hfull : 16 ≤ s.pq.length) :
    s.takeWrite m = s.answer 0 m (.retry .full) := by
  rw [State.takeWrite_of_mapped hmask hline, if_neg (ne_true_of_eq_false (any_coalescesInto_false hnone))]
  exact if_neg (Nat.not_lt.2 hfull)

end TakeWrite

/-! ## A READ that is taken (R28 to R31) -/

section TakeRead

variable {s : State} {m : Request}

theorem State.takeRead_of_held (hpair : PairHeld s m.source m.tag) : s.takeRead m = s.answer 1 m (.refuse .tagInUse) :=
  if_pos ((s.pairHeld_iff _ _).2 hpair)

theorem State.takeRead_of_unmapped (hpair : ¬PairHeld s m.source m.tag) (hline : s.cfg.active.rankOf m.line = none) :
    s.takeRead m = s.answer 1 m (.refuse .unmapped) := by
  rw [State.takeRead, if_neg (mt (s.pairHeld_iff _ _).1 hpair), if_pos (not_mapped_of_none hline)]

theorem State.takeRead_of_mapped (hpair : ¬PairHeld s m.source m.tag) (hline : ∃ n, s.cfg.active.rankOf m.line = some n) :
    s.takeRead m =
      if queueCover s.pq m.line = BitVec.allOnes 32 then s.answer 1 m (.rdata (queueMerge s.pq m.line 0) 0)
      else if s.rt.length < 8 then s.addRecord m
      else s.answer 1 m (.retry .tableFull) := by
  rw [State.takeRead, if_neg (mt (s.pairHeld_iff _ _).1 hpair),
    if_neg (ne_true_of_eq_false ((not_mapped_false_iff _ _).2 hline))]

/-- A byte that no entry holds leaves the line uncovered. -/
theorem queueCover_ne_ones {q : List Entry} {line : LineAddr} (h : ∃ p < 32, ∀ e ∈ q, ¬e.holdsByte line p) :
    queueCover q line ≠ BitVec.allOnes 32 := by
  rw [Ne, queueCover_eq_ones_iff]
  obtain ⟨p, hp, hnone⟩ := h
  intro hcover
  obtain ⟨e, he, hholds⟩ := hcover p hp
  exact hnone e he hholds

theorem State.takeRead_of_covered (hpair : ¬PairHeld s m.source m.tag) (hline : ∃ n, s.cfg.active.rankOf m.line = some n)
    (hcover : ∀ p < 32, ∃ e ∈ s.pq, e.holdsByte m.line p) :
    s.takeRead m = s.answer 1 m (.rdata (queueMerge s.pq m.line 0) 0) := by
  rw [State.takeRead_of_mapped hpair hline, if_pos ((queueCover_eq_ones_iff _ _).2 hcover)]

theorem State.takeRead_of_room (hpair : ¬PairHeld s m.source m.tag) (hline : ∃ n, s.cfg.active.rankOf m.line = some n)
    (hcover : ∃ p < 32, ∀ e ∈ s.pq, ¬e.holdsByte m.line p) (hroom : s.rt.length < 8) : s.takeRead m = s.addRecord m := by
  rw [State.takeRead_of_mapped hpair hline, if_neg (queueCover_ne_ones hcover), if_pos hroom]

theorem State.takeRead_of_full (hpair : ¬PairHeld s m.source m.tag) (hline : ∃ n, s.cfg.active.rankOf m.line = some n)
    (hcover : ∃ p < 32, ∀ e ∈ s.pq, ¬e.holdsByte m.line p) (hfull : 8 ≤ s.rt.length) :
    s.takeRead m = s.answer 1 m (.retry .tableFull) := by
  rw [State.takeRead_of_mapped hpair hline, if_neg (queueCover_ne_ones hcover), if_neg (Nat.not_lt.2 hfull)]

end TakeRead

/-- Settles O19: each refusal and retry is one branch of the checks of its owner. -/
theorem requestsRefusedOrRetried : Obligations.RequestsRefusedOrRetried := by
  refine ⟨fun m s hp hm hc => ?writes, fun m s hp hm => ?reads⟩
  case writes =>
    have hexec := exec_write_of_taken (m := m) (State.writeGate_of_run hp hm hc)
    rw [hexec]
    exact ⟨fun hmask => congrArg Host.Outcome.next (State.takeWrite_of_empty hmask),
      fun hmask hline => congrArg Host.Outcome.next (State.takeWrite_of_unmapped (s := s.beginEvent) hmask hline),
      fun hmask hline hfull hnone =>
        congrArg Host.Outcome.next (State.takeWrite_of_full (s := s.beginEvent) hmask hline hnone hfull)⟩
  case reads =>
    have hexec := exec_read_of_taken (m := m) (State.readGate_of_open hp hm)
    rw [hexec]
    exact ⟨fun hpair => congrArg Host.Outcome.next (State.takeRead_of_held (s := s.beginEvent) hpair),
      fun hpair hline => congrArg Host.Outcome.next (State.takeRead_of_unmapped (s := s.beginEvent) hpair hline),
      fun hpair hline hcover hfull =>
        congrArg Host.Outcome.next (State.takeRead_of_full (s := s.beginEvent) hpair hline hcover hfull)⟩

/-- The one entry of a list that a test admits is the one that a conditional update changes. -/
theorem map_update_append_cons {p : Entry → Bool} (f : Entry → Entry) {older younger : List Entry} {e : Entry}
    (he : p e = true) (ho : ∀ y ∈ older, p y = false) (hy : ∀ y ∈ younger, p y = false) :
    (older ++ e :: younger).map (fun x => if p x then f x else x) = older ++ f e :: younger := by
  have keep : ∀ q : List Entry, (∀ y ∈ q, p y = false) → q.map (fun x => if p x then f x else x) = q := fun q hq =>
    (List.map_congr_left fun y hy => if_neg (ne_true_of_eq_false (hq y hy))).trans (List.map_id' q)
  rw [List.map_append, List.map_cons, keep older ho, keep younger hy, if_pos he]

/-- The entries around the open entry of a WRITE's source take no WRITE of that source: an older one is closed, and a
younger one is of another source, as the open entry is the youngest of its own. -/
theorem QueueSound.only_open {s : State} (hs : QueueSound s) {m : Request} {older younger : List Entry} {e : Entry}
    (hpq : s.pq = older ++ e :: younger) (hopen : e.isOpen = true) (hsrc : e.source = m.source) :
    (∀ y ∈ older, coalescesInto m y = false) ∧ ∀ y ∈ younger, coalescesInto m y = false := by
  obtain ⟨-, -, -, hpair, -, -⟩ := hs
  rw [hpq, List.pairwise_append, List.pairwise_cons] at hpair
  obtain ⟨-, ⟨hafter, -⟩, hbefore⟩ := hpair
  refine ⟨fun y hy => ?_, fun y hy => ?_⟩ <;> rw [← Bool.not_eq_true, coalescesInto_iff]
  · rintro ⟨hyopen, hysrc, -⟩
    exact absurd hyopen (ne_true_of_eq_false (hbefore y hy e List.mem_cons_self (hysrc.trans hsrc.symm)))
  · rintro ⟨-, hysrc, -⟩
    exact absurd hopen (ne_true_of_eq_false (hafter y hy (hsrc.trans hysrc.symm)))

/-- Settles O20: the open entry of the source is the only one that coalesces, and its bytes merge under the mask. -/
theorem writeCoalesces : Obligations.WriteCoalesces := by
  intro m s older younger e hp hm hc hmask hline hs hpq hopen hsrc hl
  have hinto : coalescesInto m e = true := (coalescesInto_iff m e).2 ⟨hopen, hsrc, hl⟩
  obtain ⟨holder, hyounger⟩ := hs.only_open hpq hopen hsrc
  have hmap : s.pq.map (fun x => if coalescesInto m x then x.coalesced m else x) = older ++ e.coalesced m :: younger := by
    rw [hpq, map_update_append_cons (p := coalescesInto m) (fun x => x.coalesced m) hinto holder hyounger]
  refine ⟨mergeBytes m.mask m.data e.data, ?_, fun p hp => lineByte_mergeBytes _ _ _ p hp⟩
  have hmem : e ∈ s.beginEvent.pq := by rw [State.beginEvent_pq, hpq]; simp
  rw [exec_write_of_taken (State.writeGate_of_run hp hm hc), State.takeWrite_of_open (s := s.beginEvent) hmask hline hmem hinto]
  exact congrArg (fun q => Host.Outcome.next { s.sending [responseTo 0 m .wack] [] with pq := q }) hmap

theorem Settings.ageTime_eq_zero_iff (c : Settings) : c.ageTime = 0 ↔ c.ageLimit = 0 := by
  rw [Settings.ageTime, Nat.mul_eq_zero, BitVec.toNat_eq]
  simp

/-- Settles O21: the new entry holds the WRITE's masked bytes, and the source's open entry is closed. -/
theorem writeAppends : Obligations.WriteAppends := by
  intro m s hp hm hc hmask hline hnone hroom
  refine ⟨maskedData m, ?_, fun p hp => lineByte_maskedData m p hp⟩
  rw [exec_write_of_taken (State.writeGate_of_run hp hm hc),
    State.takeWrite_of_room (s := s.beginEvent) hmask hline hnone hroom]
  have hage := s.cfg.active.ageTime_eq_zero_iff
  have hentry : newEntry m s.cfg.active.ageTime s.now =
      { line := m.line, source := m.source, mask := m.mask, data := maskedData m, state := .queued, isOpen := true,
        ripe := decide (s.cfg.active.ageLimit = 0), fenced := false, flushed := false, faulted := false,
        timer := if s.cfg.active.ageLimit = 0 then .stopped
          else .running (s.now + 10 * s.cfg.active.ageLimit.toNat) } := by
    simp only [newEntry, hage]
    rfl
  exact congrArg (fun x => Host.Outcome.next { s.sending [responseTo 0 m .wack] [] with
    pq := (s.pq.map fun e : Entry => if e.source = m.source then e.close else e) ++ [x] }) hentry

/-- Settles O22: the queue covers the line, and each byte of its merge is the youngest entry's. -/
theorem readForwardedFromQueue : Obligations.ReadForwardedFromQueue := by
  intro m s hp hm hpair hline hcover
  refine ⟨queueMerge s.pq m.line 0, ?_, fun p hp e he => lineByte_queueMerge_of_youngest hp he 0⟩
  rw [exec_read_of_taken (State.readGate_of_open hp hm),
    State.takeRead_of_covered (s := s.beginEvent) hpair hline hcover]
  rfl

/-- Settles O23: the queue does not cover the line, and the table has room. -/
theorem readAddsRecord : Obligations.ReadAddsRecord := by
  intro m s hp hm hpair hline hcover hroom
  rw [exec_read_of_taken (State.readGate_of_open hp hm),
    State.takeRead_of_room (s := s.beginEvent) hpair hline hcover hroom]
  rfl

/-! ## A FENCE that is taken (R46, R47) -/

section TakeFence

variable {s : State} {m : Request}

theorem State.takeFence_of_held (hpair : PairHeld s m.source m.tag) : s.takeFence m = s.answer 2 m (.refuse .tagInUse) :=
  if_pos ((s.pairHeld_iff _ _).2 hpair)

theorem State.takeFence_of_pending (hpair : ¬PairHeld s m.source m.tag) {f : PendingFence}
    (hrow : s.ft.rows[m.source] = .pending f) : s.takeFence m = s.answer 2 m (.refuse .fenceBusy) := by
  have hbusy : s.ft.rows[m.source].isPending = true := by rw [hrow]; rfl
  rw [State.takeFence, if_neg (mt (s.pairHeld_iff _ _).1 hpair), if_pos hbusy]

theorem State.takeFence_of_free (hpair : ¬PairHeld s m.source m.tag) (hrow : s.ft.rows[m.source] = .free) :
    s.takeFence m = if s.entriesOf m.source = 0 then s.answer 2 m (.fdone .clean) else s.raiseFence m := by
  have hfree : s.ft.rows[m.source].isPending = false := by rw [hrow]; rfl
  rw [State.takeFence, if_neg (mt (s.pairHeld_iff _ _).1 hpair), if_neg (ne_true_of_eq_false hfree)]

theorem State.entriesOf_eq_zero_iff (src : Source) : s.entriesOf src = 0 ↔ ∀ e ∈ s.pq, e.source ≠ src := by
  simp [State.entriesOf, List.countP_eq_zero]

end TakeFence

/-- Settles O24: each answer is one branch of the fence table's checks, and a raised fence counts its source's entries. -/
theorem fenceAnsweredOrPending : Obligations.FenceAnsweredOrPending := by
  intro m s hp hm
  rw [exec_fence_of_taken (State.fenceGate_of_open hp hm)]
  refine ⟨fun hpair => ?held, fun f hpair hrow => ?busy, fun hpair hrow hnone => ?clean, fun hpair hrow hsome => ?raised⟩
  case held => exact congrArg Host.Outcome.next (State.takeFence_of_held (s := s.beginEvent) hpair)
  case busy => exact congrArg Host.Outcome.next (State.takeFence_of_pending (s := s.beginEvent) hpair hrow)
  case clean =>
    have hzero : s.beginEvent.entriesOf m.source = 0 := State.entriesOf_eq_zero_iff (s := s.beginEvent) m.source |>.2 hnone
    rw [State.takeFence_of_free (s := s.beginEvent) hpair hrow, if_pos hzero]
    rfl
  case raised =>
    have hcount : ¬s.beginEvent.entriesOf m.source = 0 := by
      rw [State.entriesOf_eq_zero_iff]
      obtain ⟨e, he, hsrc⟩ := hsome
      exact fun hnone => hnone e he hsrc
    rw [State.takeFence_of_free (s := s.beginEvent) hpair hrow, if_neg hcount]
    refine ⟨s.ft.rows.set m.source (newFence m (s.entriesOf m.source)), rfl, ?_,
      fun src hsrc => Vector.getElem_set_ne _ _ (Fin.val_ne_of_ne hsrc.symm)⟩
    rw [Fin.getElem_fin, Vector.getElem_set_self, newFence, State.entriesOf, List.countP_eq_length_filter]

/-! ## Messages (Tables 11-3 to 11-5) -/

theorem RequestMessage.command_of_unknown {k : BitVec 3} (m : Request) (h : 3 ≤ k.toNat) :
    ({ kind := k, body := m } : RequestMessage).command = .unknownKindRequest k m := by
  have hne : ∀ x : BitVec 3, x.toNat < 3 → k ≠ x := fun x hx hk => by rw [hk] at h; omega
  rw [RequestMessage.command, if_neg (hne 0 (by decide)), if_neg (hne 1 (by decide)), if_neg (hne 2 (by decide))]

/-- A WRITE carries its data at the masked bytes alone (R2, R159). -/
theorem State.takeWrite_congr (s : State) {src : Source} {tag : Tag} {line : LineAddr} {mask : ByteMask} {d d' : LineData}
    (h : d &&& maskBits mask = d' &&& maskBits mask) :
    s.takeWrite ⟨src, tag, line, mask, d⟩ = s.takeWrite ⟨src, tag, line, mask, d'⟩ := by
  have hcoalesce : s.coalesce ⟨src, tag, line, mask, d⟩ = s.coalesce ⟨src, tag, line, mask, d'⟩ := by
    simp only [State.coalesce, Entry.coalesced, mergeBytes, h]
    rfl
  have happend : s.append ⟨src, tag, line, mask, d⟩ = s.append ⟨src, tag, line, mask, d'⟩ := by
    simp only [State.append, newEntry, maskedData, h]
  unfold State.takeWrite
  rw [hcoalesce, happend]
  rfl

/-- Settles O16: the kind code names the command, no owner reads a field that is not its own, and each response has its
codes. -/
theorem requestPortMessages : Obligations.RequestPortMessages := by
  refine ⟨fun k m i hi => ?commands, fun m m' s hsrc htag => ?fields, fun k src tag d poison => rfl,
    fun k src tag a response code hmem => ?codes⟩
  case commands =>
    subst hi
    refine ⟨?_, ?_, ?_, fun hk => RequestMessage.command_of_unknown m hk⟩ <;> rintro rfl <;> rfl
  case fields =>
    obtain ⟨src, tag, line, mask, d⟩ := m
    obtain ⟨src', tag', line', mask', d'⟩ := m'
    obtain rfl : src = src' := hsrc
    obtain rfl : tag = tag' := htag
    refine ⟨rfl, fun k => rfl, fun hline => ?_⟩
    obtain rfl : line = line' := hline
    refine ⟨rfl, fun hmask hdata => ?_⟩
    obtain rfl : mask = mask' := hmask
    have htake : (fun u : State => u.takeWrite ⟨src, tag, line, mask, d⟩) = fun u => u.takeWrite ⟨src, tag, line, mask, d'⟩ :=
      funext fun u => u.takeWrite_congr (masked_congr hdata)
    rw [exec_write, exec_write, htake]
    rfl
  case codes =>
    simp only [List.mem_cons, List.not_mem_nil, or_false, Prod.mk.injEq] at hmem
    rcases hmem with ⟨rfl, rfl, rfl⟩ | ⟨rfl, rfl, rfl⟩ | ⟨rfl, rfl, rfl⟩ | ⟨rfl, rfl, rfl⟩ | ⟨rfl, rfl, rfl⟩ | ⟨rfl, rfl, rfl⟩ |
      ⟨rfl, rfl, rfl⟩ | ⟨rfl, rfl, rfl⟩ | ⟨rfl, rfl, rfl⟩ | ⟨rfl, rfl, rfl⟩ | ⟨rfl, rfl, rfl⟩ | ⟨rfl, rfl, rfl⟩ |
      ⟨rfl, rfl, rfl⟩ | ⟨rfl, rfl, rfl⟩ <;> rfl

end Sys2Proof.Machine

/-! # The grant

Which claim a grant takes, row by row of the grant order (R60 to R62), and what the claimant makes of it. -/

namespace Sys2Proof.Machine

/-! ## The claims of rows 2 to 8 -/

section Work

variable {s : State}

theorem State.grantableWork_of_urgent {n : Rank} (h : s.refreshIn s.urgent = some n) : s.grantableWork = some (.refresh n) := by
  simp only [State.grantableWork, h]

theorem State.grantableWork_of_pressing (hu : s.refreshIn s.urgent = none) (hd : s.drainClaim = some .pressing) :
    s.grantableWork = some .drain := by
  simp only [State.grantableWork, hu, if_pos hd]

theorem State.grantableWork_of_read (hu : s.refreshIn s.urgent = none) (hd : s.drainClaim ≠ some .pressing)
    {x : ReadRecord} (hx : s.oldestWaiting = some x) : s.grantableWork = some .read := by
  have hsome : s.oldestWaiting.isSome = true := by rw [hx]; rfl
  simp only [State.grantableWork, hu, if_neg hd, if_pos hsome]

theorem State.grantableWork_of_due (hu : s.refreshIn s.urgent = none) (hd : s.drainClaim = some .due)
    (hx : s.oldestWaiting = none) : s.grantableWork = some .drain := by
  simp [State.grantableWork, hu, hd, hx]

/-- The rows below the drains and the reads. -/
theorem State.grantableWork_of_background (hu : s.refreshIn s.urgent = none) (hd : s.drainClaim = none)
    (hx : s.oldestWaiting = none) :
    s.grantableWork =
      if s.fillClaim then some .fill
      else match s.refreshIn fun n => !s.urgent n with
        | some n => some (.refresh n)
        | none => if s.scrubClaim then some .scrub else none := by
  simp only [State.grantableWork, hu, hd, hx]
  rfl

theorem State.fillClaim_of_idle (hidle : s.seq.cycle = none) : s.fillClaim = (s.mdc.mode == .fill) := by
  simp [State.fillClaim, hidle]

theorem State.fillClaim_false (h : s.mdc.mode ≠ .fill) : s.fillClaim = false := by
  simp [State.fillClaim, h]

/-- A rank that owes nothing presents no refresh claim. -/
theorem State.refreshIn_none_of_debts (h : ∀ m : Rank, s.rfs[m].debt = 0) (p : Rank → Bool) : s.refreshIn p = none :=
  State.refreshIn_none fun m => by simp only [State.refreshClaim, h m]; rfl

/-- Where no rank is urgent, the ranks of row 7 are those that owe a refresh. -/
theorem State.notUrgentRank_iff (hidle : s.seq.cycle = none) (hu : ∀ m : Rank, ¬UrgentRank s m) (m : Rank) :
    (s.refreshClaim m && !s.urgent m) = true ↔ 1 ≤ s.rfs[m].debt := by
  rw [Bool.and_eq_true, State.refreshClaim_iff, hidle, Bool.not_eq_true', ← Bool.not_eq_true, State.urgent_iff]
  exact ⟨fun ⟨⟨hdebt, _⟩, _⟩ => hdebt, fun hdebt => ⟨⟨hdebt, nofun⟩, fun hlevel => hu m ⟨hdebt, hlevel⟩⟩⟩

theorem State.drainClaim_of_queued {e : Entry} {rest : List Entry} (hpq : s.pq = e :: rest) (he : e.state = .queued)
    (hp : Pressing s) : s.drainClaim = some .pressing :=
  s.drainClaim_pressing_iff.2 ⟨e, by rw [hpq]; rfl, he, hp⟩

theorem State.drainClaim_due_of_queued {e : Entry} {rest : List Entry} (hpq : s.pq = e :: rest) (he : e.state = .queued)
    (hp : ¬Pressing s) (ht : ThresholdOrRipe s) : s.drainClaim = some .due :=
  s.drainClaim_due_iff.2 ⟨e, by rw [hpq]; rfl, he, hp, ht⟩

theorem State.oldestWaiting_of_append {older younger : List ReadRecord} {x : ReadRecord} (hrt : s.rt = older ++ x :: younger)
    (ho : ∀ y ∈ older, y.state = .reading) (hx : x.state = .waiting) : s.oldestWaiting = some x := by
  have hskip : older.find? (fun r => r.state == .waiting) = none := by
    rw [List.find?_eq_none]
    exact fun y hy => by rw [ho y hy]; decide
  rw [State.oldestWaiting, hrt, List.find?_append, hskip, Option.none_or, List.find?_cons_of_pos (by rw [hx]; rfl)]

end Work

/-! ## The grants on an ACTIVE array -/

section Granted

variable {s : State}

/-- A grant on an ACTIVE array with no claim of row 1 takes the first claim of rows 2 to 8. -/
theorem exec_grant_of_work (h : WorkGrantable s) {c : Claim} (hc : s.grantableWork = some c) :
    exec .grant s = .next (s.beginEvent.grantClaim c) :=
  exec_grant_of_some (by rw [State.nextClaim_of_workGrantable h, hc])

/-- The cycle of a grant begins on the idle SEQ of an ACTIVE array. -/
theorem startCycle_of_active {t : State} (hseq : t.seq = { cycle := none, condition := .active }) (c : Cycle) :
    t.startCycle c = { t with seq := { cycle := some c, condition := .active } } := by
  rw [State.startCycle, hseq]

theorem exec_grant_refresh (h : WorkGrantable s) {n : Rank} (hc : s.grantableWork = some (.refresh n)) :
    exec .grant s = .next { s.sending [] [] with seq := { cycle := some (.refresh n), condition := .active } } := by
  rw [exec_grant_of_work h hc, State.grantClaim, startCycle_of_active (by exact h.1)]
  rfl

end Granted

/-- Settles O25: row 2 takes the urgent rank that the tie rule puts before every other. -/
theorem grantTakesUrgentRefresh : Obligations.GrantTakesUrgentRefresh := by
  intro s n h hn hbefore
  have hidle : s.seq.cycle = none := by rw [h.1]
  have hrow : s.refreshIn s.urgent = some n := State.refreshIn_some ((State.urgentRank_iff hidle n).2 hn)
    fun m hm => hbefore m ((State.urgentRank_iff hidle m).1 hm)
  exact exec_grant_refresh h (State.grantableWork_of_urgent hrow)

/-- Settles O26: row 3 or row 5 takes the QUEUED head, and its mask decides the kind of the cycle. -/
theorem grantTakesDrain : Obligations.GrantTakesDrain := by
  intro s e rest n h hurgent hpq he hrank hdrain
  have hu := State.refreshIn_urgent_none (by rw [h.1]) hurgent
  have hclaim : s.grantableWork = some .drain := by
    by_cases hp : Pressing s
    · exact State.grantableWork_of_pressing hu (State.drainClaim_of_queued hpq he hp)
    · obtain ⟨ht, hnone⟩ := hdrain.resolve_left hp
      exact State.grantableWork_of_due hu (State.drainClaim_due_of_queued hpq he hp ht) (State.oldestWaiting_none hnone)
  have hgrant : s.beginEvent.grantDrain = { s.sending [] [] with
      pq := e.granted :: rest
      seq := { cycle := some (e.drainCycle n (s.cfg.active.rankLine n e.line)), condition := .active } } := by
    simp only [State.grantDrain, State.beginEvent_pq, hpq, State.beginEvent_cfg, hrank]
    exact startCycle_of_active (t := { s.beginEvent with pq := e.granted :: rest }) h.1 _
  refine ⟨e.drainCycle n (s.cfg.active.rankLine n e.line), ?_, fun hpart => ?_, fun hwhole => ?_⟩
  · rw [exec_grant_of_work h hclaim, State.grantClaim, hgrant]
    rfl
  · exact if_pos ((hasPartialWord_iff _).2 hpart)
  · exact if_neg fun hpart => (hwhole _ ((hasPartialWord_iff _).1 hpart).choose_spec).elim

/-- Settles O27: row 4 takes the oldest WAITING record. -/
theorem grantTakesRead : Obligations.GrantTakesRead := by
  intro s x older younger n h hurgent hdrain hrt ho hx hrank
  have holdest := State.oldestWaiting_of_append hrt ho hx
  have hclaim := State.grantableWork_of_read (State.refreshIn_urgent_none (by rw [h.1]) hurgent)
    (State.drainClaim_ne_pressing hdrain) holdest
  have hb : s.beginEvent.oldestWaiting = some x := holdest
  have hgrant : s.beginEvent.grantRead = { s.sending [] [] with
      rt := older ++ { x with state := .reading } :: younger
      seq := { cycle := some (.lineRead n (s.cfg.active.rankLine n x.line)), condition := .active } } := by
    simp only [State.grantRead, hb, State.beginEvent_cfg, hrank, State.beginEvent_rt, hrt, markReading_append ho hx]
    exact startCycle_of_active
      (t := { s.beginEvent with rt := older ++ { x with state := .reading } :: younger }) h.1 _
  rw [exec_grant_of_work h hclaim, State.grantClaim, hgrant]

/-- Settles O28: below the drains and the reads stand the fill claim, the ranks that owe a refresh, and the scrub claim. -/
theorem grantTakesBackgroundWork : Obligations.GrantTakesBackgroundWork := by
  intro s h hurgent hdrain hnone
  have hidle : s.seq.cycle = none := by rw [h.1]
  have hrows := State.grantableWork_of_background (State.refreshIn_urgent_none hidle hurgent) (State.drainClaim_none hdrain)
    (State.oldestWaiting_none hnone)
  refine ⟨fun hmode => ?fill, fun n hmode hn hbefore => ?refresh, fun hmode hdebts hdue => ?scrub⟩
  case fill =>
    have hclaim : s.grantableWork = some .fill := by
      rw [hrows, if_pos (by rw [State.fillClaim_of_idle hidle, hmode]; rfl)]
    rw [exec_grant_of_work h hclaim, State.grantClaim, startCycle_of_active (by exact h.1)]
    rfl
  case refresh =>
    have hrow : s.refreshIn (fun n => !s.urgent n) = some n :=
      State.refreshIn_some ((State.notUrgentRank_iff hidle hurgent n).2 hn)
        fun m hm => hbefore m ((State.notUrgentRank_iff hidle hurgent m).1 hm)
    refine exec_grant_refresh h ?_
    rw [hrows, if_neg (ne_true_of_eq_false (State.fillClaim_false hmode)), hrow]
  case scrub =>
    have hscrub : s.scrubClaim = true := by rw [State.scrubClaim, hdue, hmode]; rfl
    have hclaim : s.grantableWork = some .scrub := by
      rw [hrows, if_neg (ne_true_of_eq_false (State.fillClaim_false (by rw [hmode]; decide))),
        State.refreshIn_none_of_debts hdebts]
      exact if_pos hscrub
    rw [exec_grant_of_work h hclaim, State.grantClaim, startCycle_of_active (by exact h.1)]
    rfl

/-! ## Row 1, and no grant -/

section Mode

variable {s : State}

theorem State.nextClaim_of_mode (hidle : s.seq.cycle = none) (hrst : s.pins.rst = false) {c : Claim}
    (hc : s.grantableMode = some c) : s.nextClaim = some c := by
  have hfree : (!s.idle || s.pins.rst) = false := by rw [State.idle, hidle, hrst]; rfl
  rw [State.nextClaim, if_neg (ne_true_of_eq_false hfree), hc]

theorem State.nextClaim_of_busy (h : s.seq.cycle ≠ none) : s.nextClaim = none := by
  have hbusy : s.idle = false := by
    rw [State.idle, ← Bool.not_eq_true, Option.isNone_iff_eq_none]
    exact h
  rw [State.nextClaim, hbusy]
  rfl

theorem State.nextClaim_of_rst (h : s.pins.rst = true) : s.nextClaim = none := by
  rw [State.nextClaim, h, Bool.or_true]
  rfl

/-- Without a claim of row 1 an array that is not ACTIVE is granted nothing. -/
theorem State.nextClaim_of_not_active (hc : s.seq.condition ≠ .active) (hmode : s.grantableMode = none) :
    s.nextClaim = none := by
  unfold State.nextClaim
  split
  · rfl
  · rw [hmode]

theorem State.modeClaim_of_run (h : s.mdc.mode = .run) : s.modeClaim = none := by
  rw [State.modeClaim, h]

theorem State.grantableMode_of_no_claim (h : s.modeClaim = none) : s.grantableMode = none := by
  rw [State.grantableMode, h]
  cases s.seq.condition <;> rfl

/-- On a SELF-REFRESH array row 1 is grantable in INIT and RESUME alone. -/
theorem State.grantableMode_of_selfRefresh (hc : s.seq.condition = .selfRefresh) (hinit : s.mdc.mode ≠ .init)
    (hresume : s.mdc.mode ≠ .resume) : s.grantableMode = none := by
  have hclaim : s.modeClaim = none ∨ s.modeClaim = some .selfRefreshEntry := by
    unfold State.modeClaim
    split
    case h_1 hm => exact absurd hm hinit
    case h_2 => split <;> simp
    case h_3 hm => exact absurd hm hresume
    all_goals exact .inl rfl
  rcases hclaim with h | h <;> rw [State.grantableMode, h, hc]

/-- On a COLD array row 1 is grantable in INIT alone. -/
theorem State.grantableMode_of_cold (hc : s.seq.condition = .cold) (hinit : s.mdc.mode ≠ .init) :
    s.grantableMode = none := by
  have hclaim : s.modeClaim ≠ some .powerUp := by
    unfold State.modeClaim
    split
    case h_1 hm => exact absurd hm hinit
    case h_2 => split <;> simp
    case h_3 => split <;> simp
    all_goals simp
  rw [State.grantableMode, hc]
  cases hm : s.modeClaim with
  | none => rfl
  | some c =>
    cases c
    case powerUp => exact absurd hm hclaim
    all_goals rfl

end Mode

/-- Settles O29: on an idle SEQ out of reset row 1 holds the operation that the mode calls for. -/
theorem grantTakesModeOperation : Obligations.GrantTakesModeOperation := by
  intro s hidle hrst
  have hfree : s.idle = true := by rw [State.idle, hidle]; rfl
  refine ⟨fun hmode hcond => ?powerUp, fun hmode hcond => ?exit, fun hmode hcond hpq hrt hrows => ?entry⟩
  case powerUp =>
    have hclaim : s.grantableMode = some .powerUp := by
      unfold State.grantableMode State.modeClaim
      cases hc : s.seq.condition <;> simp_all
    rw [exec_grant_of_some (State.nextClaim_of_mode hidle hrst hclaim)]
    rfl
  case exit =>
    have hclaim : s.grantableMode = some .selfRefreshExit := by
      unfold State.grantableMode State.modeClaim
      rcases hmode with hmode | hmode <;> simp [hmode, hcond, hfree, hrst]
    rw [exec_grant_of_some (State.nextClaim_of_mode hidle hrst hclaim), ← hcond]
    rfl
  case entry =>
    have hready : s.readyForEntry = true := by
      simp [State.readyForEntry, hpq, hrt, s.rowsFree_iff.2 hrows, hfree]
    have hclaim : s.grantableMode = some .selfRefreshEntry := by
      rw [State.grantableMode, State.modeClaim, hmode, hcond]
      simp only [hready, if_true]
    rw [exec_grant_of_some (State.nextClaim_of_mode hidle hrst hclaim)]
    rfl

/-- Settles O30: in each of these states no claim is grantable. -/
theorem grantWithoutGrantableClaim : Obligations.GrantWithoutGrantableClaim := by
  intro s
  refine ⟨fun h => ?busy, fun h => ?reset, fun hc hinit hresume => ?selfRefresh, fun hc hinit => ?cold,
    fun hmode hdebts hdrain hnone hdue => ?quiet⟩
  case busy => exact exec_grant_of_none (State.nextClaim_of_busy h)
  case reset => exact exec_grant_of_none (State.nextClaim_of_rst h)
  case selfRefresh =>
    exact exec_grant_of_none (State.nextClaim_of_not_active (by rw [hc]; decide)
      (State.grantableMode_of_selfRefresh hc hinit hresume))
  case cold =>
    exact exec_grant_of_none (State.nextClaim_of_not_active (by rw [hc]; decide) (State.grantableMode_of_cold hc hinit))
  case quiet =>
    have hscrub : s.scrubClaim = false := by rw [State.scrubClaim, hdue]; rfl
    have hwork : s.grantableWork = none := by
      rw [State.grantableWork_of_background (State.refreshIn_none_of_debts hdebts _) (State.drainClaim_none hdrain)
        (State.oldestWaiting_none hnone), State.refreshIn_none_of_debts hdebts, hscrub,
        State.fillClaim_false (by rw [hmode]; decide)]
      rfl
    refine exec_grant_of_none ?_
    rw [State.nextClaim, State.grantableMode_of_no_claim (State.modeClaim_of_run hmode), hwork]
    simp only [ite_self]

end Sys2Proof.Machine

/-! # Flips of stored bits

What one flip does to a stored word, how many bits differ after flips of different bits, and what the word then reads
as (R91, R93, Table 6-1). -/

namespace Sys2Proof.Machine

/-! ## The flipped bits of a check code -/

theorem mem_flipCodeBit_of_ne {i j : Nat} (h : j ≠ i) (bits : List Nat) : j ∈ flipCodeBit i bits ↔ j ∈ bits := by
  induction bits with
  | nil => simp [flipCodeBit, h]
  | cons k rest ih =>
    unfold flipCodeBit
    split
    · simp [h]
    · split
      · subst i
        simp [h]
      · simp [ih]

theorem length_flipCodeBit {i : Nat} {bits : List Nat} (h : i ∉ bits) : (flipCodeBit i bits).length = bits.length + 1 := by
  induction bits with
  | nil => rfl
  | cons k rest ih =>
    rw [List.mem_cons, not_or] at h
    obtain ⟨hk, hrest⟩ := h
    unfold flipCodeBit
    split
    · rfl
    · rw [List.length_cons, ih hrest, List.length_cons]

/-- In a rising list a flip of bit `i` changes whether `i` is listed. -/
theorem self_mem_flipCodeBit {i : Nat} {bits : List Nat} (h : bits.Pairwise (· < ·)) : i ∈ flipCodeBit i bits ↔ i ∉ bits := by
  induction bits with
  | nil => simp [flipCodeBit]
  | cons k rest ih =>
    obtain ⟨hk, hrest⟩ := List.pairwise_cons.1 h
    unfold flipCodeBit
    split
    case isTrue hlt =>
      have hlow : i ∉ rest := fun hi => absurd (hk i hi) (Nat.not_lt.2 (Nat.le_of_lt hlt))
      simp [hlow, Nat.ne_of_lt hlt]
    split
    case isTrue heq =>
      subst heq
      simp only [List.mem_cons, true_or, not_true_eq_false, iff_false]
      exact fun hi => Nat.lt_irrefl _ (hk i hi)
    case isFalse hne =>
      simp [hne, ih hrest]

theorem mem_flipCodeBit {i : Nat} {bits : List Nat} (h : bits.Pairwise (· < ·)) (j : Nat) :
    j ∈ flipCodeBit i bits ↔ ¬(j ∈ bits ↔ j = i) := by
  by_cases hj : j = i
  · subst hj
    simp [self_mem_flipCodeBit h]
  · simp [mem_flipCodeBit_of_ne hj, hj]

theorem flipCodeBit_rising {i : Nat} {bits : List Nat} (h : bits.Pairwise (· < ·)) :
    (flipCodeBit i bits).Pairwise (· < ·) := by
  induction bits with
  | nil => exact List.pairwise_singleton _ _
  | cons k rest ih =>
    obtain ⟨hk, hrest⟩ := List.pairwise_cons.1 h
    unfold flipCodeBit
    split
    case isTrue hlt =>
      refine List.pairwise_cons.2 ⟨fun j hj => ?_, h⟩
      rcases List.mem_cons.1 hj with rfl | hj
      · exact hlt
      · exact Nat.lt_trans hlt (hk j hj)
    split
    case isTrue => exact hrest
    case isFalse hge hne =>
      refine List.pairwise_cons.2 ⟨fun j hj => ?_, ih hrest⟩
      by_cases hji : j = i
      · omega
      · exact hk j ((mem_flipCodeBit_of_ne hji rest).1 hj)

/-! ## The data bits -/

theorem getLsbD_xor_twoPow (d : Word) (i : Fin 64) {j : Nat} (hj : j < 64) :
    (d ^^^ BitVec.ofNat 64 (2 ^ i.val)).getLsbD j = (d.getLsbD j ^^ decide (j = i.val)) := by
  rw [BitVec.getLsbD_xor, BitVec.getLsbD_ofNat, Nat.testBit_two_pow]
  simp only [hj, decide_true, Bool.true_and, eq_comm]

/-- Two tests that differ at one element of a list without repeats, which only the second admits. -/
theorem countP_succ_of_admits {p q : Nat → Bool} {a : Nat} {l : List Nat} (hl : l.Nodup) (ha : a ∈ l) (hp : p a = false)
    (hq : q a = true) (hsame : ∀ b ∈ l, b ≠ a → q b = p b) : l.countP q = l.countP p + 1 := by
  induction l with
  | nil => cases ha
  | cons b l ih =>
    obtain ⟨hb, hl⟩ := List.nodup_cons.1 hl
    rw [List.countP_cons, List.countP_cons]
    rcases List.mem_cons.1 ha with rfl | ha
    · have hrest : l.countP q = l.countP p :=
        List.countP_congr fun c hc => by rw [hsame c (List.mem_cons_of_mem _ hc) (fun he => hb (he ▸ hc))]
      rw [hrest, hp, hq]
      rfl
    · have hne : b ≠ a := fun he => hb (he ▸ ha)
      rw [ih hl ha fun c hc => hsame c (List.mem_cons_of_mem _ hc), hsame b List.mem_cons_self hne]
      omega

/-- Setting a data bit that was clear raises the count of set bits by one. -/
theorem bitCount_xor_twoPow {d : Word} {i : Fin 64} (h : d.getLsbD i.val = false) :
    bitCount (d ^^^ BitVec.ofNat 64 (2 ^ i.val)) = bitCount d + 1 := by
  refine countP_succ_of_admits List.nodup_range (List.mem_range.2 i.isLt) h ?_ fun j hj hne => ?_
  · rw [getLsbD_xor_twoPow d i i.isLt, h, decide_eq_true rfl]
    rfl
  · rw [getLsbD_xor_twoPow d i (List.mem_range.1 hj), decide_eq_false hne, Bool.xor_false]

/-! ## Flips of a word -/

/-- Whether a stored bit of a word differs from what was written (R91). -/
def StoredWord.differsAt (x : StoredWord) : StoredBit → Prop
  | .data i => (x.stored ^^^ x.written).getLsbD i.val = true
  | .code i => i ∈ x.codeFlips

namespace StoredWord

@[simp] theorem flip_written (x : StoredWord) (b : StoredBit) : (x.flip b).written = x.written := by
  cases b <;> rfl

@[simp] theorem flip_code (x : StoredWord) (b : StoredBit) : (x.flip b).code = x.code := by
  cases b <;> rfl

/-- The difference from what was written, after a flip of a data bit. -/
theorem flip_data_difference (x : StoredWord) (i : Fin 64) :
    (x.flip (.data i)).stored ^^^ (x.flip (.data i)).written = (x.stored ^^^ x.written) ^^^ BitVec.ofNat 64 (2 ^ i.val) := by
  rw [flip_written]
  show x.stored ^^^ BitVec.ofNat 64 (2 ^ i.val) ^^^ x.written = _
  rw [BitVec.xor_assoc, BitVec.xor_assoc, BitVec.xor_comm x.written]

/-- A flip of one bit leaves every other as it was. -/
theorem differsAt_flip_of_ne {x : StoredWord} {b c : StoredBit} (h : c ≠ b) : (x.flip b).differsAt c ↔ x.differsAt c := by
  cases b with
  | data i =>
    cases c with
    | data j =>
      have hne : j.val ≠ i.val := fun he => h (by rw [Fin.ext he])
      show ((x.flip (.data i)).stored ^^^ (x.flip (.data i)).written).getLsbD j.val = true ↔ _
      rw [flip_data_difference, getLsbD_xor_twoPow _ _ j.isLt, decide_eq_false hne, Bool.xor_false]
      rfl
    | code j => rfl
  | code i =>
    cases c with
    | data j => rfl
    | code j => exact mem_flipCodeBit_of_ne (fun he => h (by rw [he])) x.codeFlips

/-- A flip of a bit that stood as written makes one more bit differ. -/
theorem flips_flip {x : StoredWord} {b : StoredBit} (h : ¬x.differsAt b) : (x.flip b).flips = x.flips + 1 := by
  cases b with
  | data i =>
    have hcount := bitCount_xor_twoPow (Bool.not_eq_true _ ▸ h : (x.stored ^^^ x.written).getLsbD i.val = false)
    rw [flips, flip_data_difference, hcount]
    show bitCount (x.stored ^^^ x.written) + 1 + x.codeFlips.length = _
    rw [flips]
    omega
  | code i =>
    show bitCount (x.stored ^^^ x.written) + (flipCodeBit i x.codeFlips).length = _
    rw [length_flipCodeBit h, flips]
    omega

/-- Flips of different bits that stood as written each make one more bit differ, and keep what was written and the form
of the code. -/
theorem foldl_flip {bits : List StoredBit} (hbits : bits.Nodup) {x : StoredWord} (hx : ∀ b ∈ bits, ¬x.differsAt b) :
    (bits.foldl flip x).flips = x.flips + bits.length ∧ (bits.foldl flip x).written = x.written ∧
      (bits.foldl flip x).code = x.code := by
  induction bits generalizing x with
  | nil => exact ⟨rfl, rfl, rfl⟩
  | cons b rest ih =>
    obtain ⟨hb, hrest⟩ := List.nodup_cons.1 hbits
    have hnext : ∀ c ∈ rest, ¬(x.flip b).differsAt c := fun c hc => by
      rw [differsAt_flip_of_ne (ne_of_mem_of_not_mem hc hb)]
      exact hx c (List.mem_cons_of_mem _ hc)
    obtain ⟨hflips, hwritten, hcode⟩ := ih hrest hnext
    refine ⟨?_, hwritten.trans (flip_written x b), hcode.trans (flip_code x b)⟩
    rw [List.foldl_cons, hflips, flips_flip (hx b List.mem_cons_self), List.length_cons]
    omega

/-- A word just written differs from what was written at no bit. -/
theorem not_differsAt_writtenWith (c : CodeForm) (d : Word) (b : StoredBit) : ¬(writtenWith c d).differsAt b := by
  cases b with
  | data i => simp [differsAt, writtenWith]
  | code i => simp [differsAt, writtenWith]

theorem flips_writtenWith (c : CodeForm) (d : Word) : (writtenWith c d).flips = 0 := by
  show bitCount (d ^^^ d) + 0 = 0
  rw [BitVec.xor_self, bitCount, List.countP_eq_zero.2 fun _ _ => by simp]

theorem handed_of_corrected {x : StoredWord} (h : x.outcome = .corrected) : x.handed = x.written := if_pos h

theorem handed_of_not_corrected {x : StoredWord} (h : x.outcome ≠ .corrected) : x.handed = x.stored := if_neg h

theorem outcome_of_fresh {x : StoredWord} (h : x.code = .fresh) :
    x.outcome = if x.flips = 0 then .clean else if x.flips = 1 then .corrected else .uncorrectable := by
  rw [outcome, h]

theorem outcome_of_poison {x : StoredWord} (h : x.code = .poison) :
    x.outcome = if x.flips ≤ 1 then .poisoned else .uncorrectable := by
  rw [outcome, h]

end StoredWord

/-- Settles O31: the number of different bits flipped is the number that the outcome table counts. -/
theorem wordOutcomeByFlips : Obligations.WordOutcomeByFlips := by
  intro c d bits hbits x hx
  obtain ⟨hflips, hwritten, hcode⟩ :=
    StoredWord.foldl_flip hbits (x := writtenWith c d) fun b _ => StoredWord.not_differsAt_writtenWith c d b
  rw [StoredWord.flips_writtenWith, Nat.zero_add] at hflips
  change x = bits.foldl StoredWord.flip (writtenWith c d) at hx
  rw [← hx] at hflips hwritten hcode
  cases c with
  | fresh =>
    have hout := StoredWord.outcome_of_fresh hcode
    rw [hflips] at hout
    refine ⟨hout, fun _ hfew => ?_, fun hmany => ?_⟩
    · by_cases hnone : bits.length = 0
      · rw [List.length_eq_zero_iff] at hnone
        rw [hx, hnone]
        exact handed_writtenWith .fresh d
      · have hone : bits.length = 1 := by omega
        rw [StoredWord.handed_of_corrected (by rw [hout, hone]; rfl), hwritten]
        rfl
    · have htwo : 2 ≤ bits.length := hmany.resolve_left nofun
      refine StoredWord.handed_of_not_corrected ?_
      rw [hout, if_neg (by omega), if_neg (by omega)]
      decide
  | poison =>
    have hout := StoredWord.outcome_of_poison hcode
    rw [hflips] at hout
    refine ⟨hout, nofun, fun _ => StoredWord.handed_of_not_corrected ?_⟩
    rw [hout]
    split <;> decide

/-! ## STORED_BIT_FLIP -/

/-- A word of the ranks after a store to a cell. -/
theorem State.word_of_store {s t : State} {r : Rank} {l : RankLine} {w : Fin 4} {x : StoredWord}
    (ha : t.array = Memory.store s.array (cellAddr r l w) x) (hp : t.powerOns = s.powerOns) (r' : Rank) (l' : RankLine)
    (w' : Fin 4) : t.word r' l' w' = if r' = r ∧ l' = l ∧ w' = w then x else s.word r' l' w' := by
  unfold State.word
  rw [ha, hp, Memory.lookup_store]
  simp only [cellAddr_inj]
  split <;> rfl

/-- Settles O60: the cell of the word takes the flipped word, and no other cell changes. -/
theorem storedBitFlips : Obligations.StoredBitFlips := by
  intro s r l w b
  obtain ⟨t, ht⟩ : ∃ t : State, t =
      { s.sending [] [] with array := Memory.store s.array (cellAddr r l w) ((s.word r l w).flip b) } := ⟨_, rfl⟩
  refine ⟨t, _, congrArg Host.Outcome.next ht.symm, ht, ?_⟩
  have hword := State.word_of_store (s := s) (t := t) (congrArg State.array ht) (by rw [ht]; rfl)
  have hself := hword r l w
  rw [if_pos ⟨rfl, rfl, rfl⟩] at hself
  rw [hself]
  refine ⟨StoredWord.flip_written _ b, StoredWord.flip_code _ b, ?_, ?_, fun r' l' w' hne => ?_⟩
  · rintro i rfl
    exact ⟨rfl, fun j hj => getLsbD_xor_twoPow _ i hj⟩
  · rintro i rfl
    exact ⟨rfl, fun hrising => ⟨flipCodeBit_rising hrising, mem_flipCodeBit hrising⟩⟩
  · rw [hword, if_neg hne]

end Sys2Proof.Machine

/-! # The departure of the head

What a report makes of a fence row and of the flush, what a completion makes of a corrected count and the log, and from
both what the departure of the head leaves: its words, its counts, its reports and the reads (R17, R18, R48, R49, R55, R94,
R95, R97, R98). -/

namespace Sys2Proof.Machine

/-! ## Reports (R48, R49, R55) -/

section Reports

variable {s : State} {x : Report}

theorem State.report_row_self (hf : x.fenced = true) :
    (s.report x).ft.rows[x.source] = s.ft.rows[x.source].counted x := by
  unfold State.report
  rw [if_pos hf]
  exact Vector.getElem_set_self _

theorem State.report_row_other {src : Source} (h : src ≠ x.source ∨ x.fenced = false) :
    (s.report x).ft.rows[src] = s.ft.rows[src] := by
  unfold State.report
  dsimp only
  split
  · rename_i hf
    exact getElem_set_of_ne s.ft.rows (h.resolve_right (fun hno => nomatch hf.symm.trans hno)) _
  · rfl

theorem State.report_rsp_of_fenced (hf : x.fenced = true) : (s.report x).rsp = s.rsp ++ s.ft.rows[x.source].done x := by
  unfold State.report
  simp only [hf, if_true]

theorem State.report_rsp_of_unfenced (hf : x.fenced = false) : (s.report x).rsp = s.rsp := by
  unfold State.report
  simp only [hf, Bool.false_eq_true, if_false, List.append_nil]

theorem State.report_flush_of_flushed (hf : x.flushed = true) : (s.report x).ft.flush = s.ft.flush.counted := if_pos hf

theorem State.report_flush_of_unflushed (hf : x.flushed = false) : (s.report x).ft.flush = s.ft.flush :=
  if_neg (ne_true_of_eq_false hf)

/-- A row that counts more than one entry stays PENDING after one of them is reported, and no FDONE leaves. -/
theorem FenceRow.counted_of_more {f : PendingFence} (h : 2 ≤ f.remaining) :
    (FenceRow.pending f).counted x = .pending (f.counted x) ∧ (FenceRow.pending f).done x = [] := by
  have hmore : ¬(f.counted x).remaining = 0 := by
    show ¬f.remaining - 1 = 0
    omega
  exact ⟨if_neg hmore, if_neg hmore⟩

/-- A row that counts one entry becomes FREE as it is reported, and its FDONE leaves. -/
theorem FenceRow.counted_of_last {f : PendingFence} (h : f.remaining = 1) :
    (FenceRow.pending f).counted x = .free ∧
      (FenceRow.pending f).done x =
        [{ kind := 2, source := x.source, tag := f.tag, answer := .fdone (f.counted x).status }] := by
  have hlast : (f.counted x).remaining = 0 := by
    show f.remaining - 1 = 0
    omega
  exact ⟨if_pos hlast, if_pos hlast⟩

theorem Flush.counted_of_more {f : Flush} (ha : f.active = true) (h : 2 ≤ f.remaining) :
    f.counted = { f with remaining := f.remaining - 1 } := by
  rw [Flush.counted, if_pos ha, if_neg (by omega)]

theorem Flush.counted_of_last {f : Flush} (ha : f.active = true) (h : f.remaining = 1) :
    f.counted = { active := false, remaining := 0, complete := true } := by
  rw [Flush.counted, if_pos ha, if_pos (by omega)]

end Reports

/-! ## Corrected counts and the log (R97, R98) -/

theorem addSaturating_toNat (c : BitVec 16) (k : Nat) : (addSaturating c k).toNat = min (c.toNat + k) 65535 := by
  rw [addSaturating, BitVec.toNat_ofNat]
  omega

/-- A completion's word fault enters the log first, and the limit after it (R98). -/
theorem State.addCorrected_faultIf_flg (s : State) (bad : WordSet) (e : FaultEvent) (r : Rank) (k : Nat) :
    ((s.faultIf (bad != 0) e).addCorrected r k).flg =
      logAfter s bad e r s.chk[r].toNat (addSaturating s.chk[r] k).toNat := by
  have hflg : (s.faultIf (bad != 0) e).flg = if bad = 0 then s.flg else s.flg.take e := by
    by_cases hb : bad = 0
    · subst hb
      rfl
    · have hne : (bad != 0) = true := bne_iff_ne.2 hb
      rw [State.faultIf, if_pos hne, if_neg hb]
      rfl
  unfold State.addCorrected logAfter
  simp only [State.faultIf_flg _ (_ && _), State.faultIf_chk, State.faultIf_cfg, hflg, Bool.and_eq_true, decide_eq_true_eq]

theorem State.depart_flg (s : State) (e : Entry) (rest : List Entry) (r : Rank) (l : RankLine) :
    (s.depart e rest r l).flg =
      logAfter s (s.partialFound e r l .uncorrectable)
        (.mergeUncorrectable r e.line e.source (s.partialFound e r l .uncorrectable)) r s.chk[r].toNat
        (addSaturating s.chk[r] (countWords (s.partialFound e r l .corrected))).toNat :=
  s.finishWords.addCorrected_faultIf_flg _ _ _ _

theorem State.finishRead_flg (s : State) (x : ReadRecord) (r : Rank) (l : RankLine) :
    (s.finishRead x r l).flg =
      logAfter s (s.wordsFound r l .uncorrectable) (.readUncorrectable r x.line x.source (s.wordsFound r l .uncorrectable)) r
        s.chk[r].toNat (addSaturating s.chk[r] (countWords (s.wordsFound r l .corrected))).toNat :=
  s.addCorrected_faultIf_flg _ _ _ _

theorem State.finishScrub_flg (s : State) (r : Rank) (l : RankLine) :
    (s.finishScrub r l).flg =
      logAfter s (s.wordsFound r l .uncorrectable)
        (.scrubUncorrectable r (s.cfg.active.lineOf r l) (s.wordsFound r l .uncorrectable)) r s.chk[r].toNat
        (addSaturating s.chk[r] (countWords (s.wordsFound r l .corrected))).toNat := by
  unfold State.finishScrub
  rw [State.advancePointer_flg]
  exact s.finishWords.addCorrected_faultIf_flg _ _ _ _

/-! ## The departure of the head -/

section Departure

variable {s : State} {e : Entry} {rest : List Entry} {r : Rank} {l : RankLine}

theorem State.depart_pq : (s.depart e rest r l).pq = rest := by rw [State.depart_frame]

theorem State.depart_cfg : (s.depart e rest r l).cfg = s.cfg := by rw [State.depart_frame]

theorem State.depart_array : (s.depart e rest r l).array = s.arrayAfterCycle fun _ => true := by rw [State.depart_frame]

theorem State.depart_powerOns : (s.depart e rest r l).powerOns = s.powerOns := by rw [State.depart_frame]

/-- While the head's array write is in flight, its completion is its departure (R18). -/
theorem exec_departure_of_writingHead (h : WritingHead s e rest r l) :
    exec .departure s = .next (s.beginEvent.depart e rest r l) := by
  obtain ⟨hpq, hstate, hcycle⟩ := h
  have hwriting : e.isWriting = true := by rw [Entry.isWriting, hstate]; rfl
  show execDeparture s = _
  rcases hcycle with hcycle | hcycle <;>
    simp only [execDeparture, State.beginEvent_seq, State.beginEvent_pq, hcycle, hpq, hwriting, if_true]

/-- The word of the head's line that its departure leaves is the entry's, where it writes one (R68, R69, R94). -/
theorem word_of_departure (h : WritingHead s e rest r l) {t : State} (ha : t.array = s.arrayAfterCycle fun _ => true)
    (hp : t.powerOns = s.powerOns) (w : Fin 4) :
    t.word r l w = (e.wordWritten w (s.word r l w)).getD (s.word r l w) := by
  obtain ⟨hpq, -, hcycle⟩ := h
  have htarget : s.seq.cycle.bind Cycle.target = some (r, l) := by rcases hcycle with hc | hc <;> rw [hc] <;> rfl
  have hplanned : s.wordPlanned w = e.wordWritten w (s.word r l w) := by
    rcases hcycle with hc | hc <;> rw [State.wordPlanned, hc, hpq] <;> rfl
  rw [State.word_of_arrayAfterCycle ha hp, if_pos ⟨htarget, rfl⟩, hplanned]

/-- No other line changes. -/
theorem word_of_departure_of_ne (h : WritingHead s e rest r l) {t : State} (ha : t.array = s.arrayAfterCycle fun _ => true)
    (hp : t.powerOns = s.powerOns) {r' : Rank} {l' : RankLine} (hne : ¬(r' = r ∧ l' = l)) (w : Fin 4) :
    t.word r' l' w = s.word r' l' w := by
  obtain ⟨-, -, hcycle⟩ := h
  have htarget : s.seq.cycle.bind Cycle.target = some (r, l) := by rcases hcycle with hc | hc <;> rw [hc] <;> rfl
  rw [State.word_of_arrayAfterCycle ha hp, htarget, if_neg]
  rintro ⟨heq, -⟩
  cases heq
  exact hne ⟨rfl, rfl⟩

theorem Entry.wordWritten_of_full {w : Fin 4} (h : FullWord e.mask w) (old : StoredWord) :
    e.wordWritten w old = some (freshWord (lineWord e.data w)) := by
  rw [Entry.wordWritten, (coverage_full_iff _ _).2 h]
  rfl

theorem Entry.wordWritten_of_none {w : Fin 4} (h : NoneWord e.mask w) (old : StoredWord) : e.wordWritten w old = none := by
  rw [Entry.wordWritten, (coverage_none_iff _ _).2 h]

theorem Entry.wordWritten_of_partial {w : Fin 4} (h : PartialWord e.mask w) (old : StoredWord) :
    e.wordWritten w old = some (writtenWith (if old.outcome.damaged then .poison else .fresh)
      (mergeWord (wordMask e.mask w) (lineWord e.data w) old.handed)) := by
  rw [Entry.wordWritten, (coverage_part_iff _ _).2 h]

theorem WordOutcome.damaged_iff (o : WordOutcome) : o.damaged = true ↔ o = .uncorrectable ∨ o = .poisoned := by
  cases o <;> simp [WordOutcome.damaged]

end Departure

/-- Settles O33: the departure writes the words that the entry's mask calls for. -/
theorem departureWritesWords : Obligations.DepartureWritesWords := by
  intro s e rest r l h
  obtain ⟨t, ht⟩ : ∃ t, t = s.beginEvent.depart e rest r l := ⟨_, rfl⟩
  have hframe := State.depart_frame s.beginEvent e rest r l
  rw [← ht] at hframe
  have harray : t.array = s.arrayAfterCycle fun _ => true := by rw [ht]; exact State.depart_array
  have hpower : t.powerOns = s.powerOns := by rw [ht]; exact State.depart_powerOns
  refine ⟨t, t.rsp, t.array, t.ft, t.flg, t.chk, ?_, ?_, fun w hw => ?_, fun w hw => ?_, fun w hw => ?_,
    fun r' l' w hne => word_of_departure_of_ne h harray hpower hne w⟩
  · rw [exec_departure_of_writingHead h, ht]
  · rw [harray]
    exact hframe
  · rw [word_of_departure h harray hpower, Entry.wordWritten_of_full hw, Option.getD_some]
  · rw [word_of_departure h harray hpower, Entry.wordWritten_of_none hw, Option.getD_none]
  · have hbytes := wordByte_handed_wordWritten e w (s.word r l w)
    rw [word_of_departure h harray hpower]
    rw [Entry.wordWritten_of_partial hw, Option.getD_some, handed_writtenWith] at *
    refine ⟨rfl, rfl, ?_, fun p hp => hbytes p hp⟩
    rw [← WordOutcome.damaged_iff]
    show (if (s.word r l w).outcome.damaged then CodeForm.poison else .fresh) = .poison ↔ _
    split <;> simp [*]

/-! ## What a departure counts and reports -/

/-- What the PQ reports of a departing head, with the faulted mark of its merge (R17, R18). -/
def State.headReport (s : State) (e : Entry) (r : Rank) (l : RankLine) : Report :=
  { e with faulted := e.faulted || s.mergeFaults e r l }.departureReport

theorem State.depart_ft (s : State) (e : Entry) (rest : List Entry) (r : Rank) (l : RankLine) :
    (s.depart e rest r l).ft = (s.report (s.headReport e r l)).ft := by
  unfold State.depart
  dsimp only
  rw [State.addCorrected_frame, State.faultIf_frame]
  rfl

theorem State.depart_rsp (s : State) (e : Entry) (rest : List Entry) (r : Rank) (l : RankLine) :
    (s.depart e rest r l).rsp = (s.report (s.headReport e r l)).rsp := by
  unfold State.depart
  dsimp only
  rw [State.addCorrected_frame, State.faultIf_frame]
  rfl

theorem State.mergeFaults_iff (s : State) (e : Entry) (r : Rank) (l : RankLine) :
    s.mergeFaults e r l = true ↔ ∃ w, MergeFinds s e r l .uncorrectable w ∨ MergeFinds s e r l .poisoned w := by
  rw [State.mergeFaults, Bool.or_eq_true, wordSet_ne_zero_iff, wordSet_ne_zero_iff, ← exists_or]
  exact exists_congr fun w => or_congr (partialFound_isWordSet s e r l .uncorrectable w)
    (partialFound_isWordSet s e r l .poisoned w)

/-- Settles O34: the departure is one report of the head, with its faulted mark as `b`. -/
theorem departureCounted : Obligations.DepartureCounted := by
  intro s e rest r l b h hb
  have hfaulted : (s.headReport e r l).faulted = b := by
    rw [Bool.eq_iff_iff, hb, ← s.mergeFaults_iff]
    exact Bool.or_eq_true _ _ ▸ Iff.rfl
  have hft : (s.beginEvent.depart e rest r l).ft = (s.beginEvent.report (s.headReport e r l)).ft := State.depart_ft _ _ _ _ _
  have hrsp : (s.beginEvent.depart e rest r l).rsp = (s.beginEvent.report (s.headReport e r l)).rsp :=
    State.depart_rsp _ _ _ _ _
  refine ⟨_, exec_departure_of_writingHead h, ?_⟩
  rw [hft, hrsp]
  refine ⟨fun src hsrc => State.report_row_other hsrc, fun hf => State.report_rsp_of_unfenced hf,
    fun f hf hrow hmore => ?more, fun f hf hrow hlast => ?last, fun hf => State.report_flush_of_unflushed hf,
    fun hf hactive hmore => ?flushMore, fun hf hactive hlast => ?flushLast⟩
  case more =>
    have hcounted := FenceRow.counted_of_more (x := s.headReport e r l) hmore
    refine ⟨?_, ?_⟩
    · refine (State.report_row_self (s := s.beginEvent) (x := s.headReport e r l) hf).trans ?_
      show s.ft.rows[e.source].counted _ = _
      rw [hrow, hcounted.1, PendingFence.counted, hfaulted]
      exact congrArg (fun d => FenceRow.pending { f with remaining := f.remaining - 1, faulted := f.faulted || b, discarded := d })
        (Bool.or_false _)
    · refine (State.report_rsp_of_fenced (s := s.beginEvent) (x := s.headReport e r l) hf).trans ?_
      show [] ++ s.ft.rows[e.source].done _ = _
      rw [hrow, hcounted.2]
      rfl
  case last =>
    have hcounted := FenceRow.counted_of_last (x := s.headReport e r l) hlast
    refine ⟨?_, ?_⟩
    · refine (State.report_row_self (s := s.beginEvent) (x := s.headReport e r l) hf).trans ?_
      show s.ft.rows[e.source].counted _ = _
      rw [hrow, hcounted.1]
    · refine (State.report_rsp_of_fenced (s := s.beginEvent) (x := s.headReport e r l) hf).trans ?_
      show [] ++ s.ft.rows[e.source].done _ = _
      have hstatus : (f.counted (s.headReport e r l)).status =
          if f.discarded then .discarded else if f.faulted || b then .faulted else .clean := by
        show (if (f.discarded || false) = true then FenceStatus.discarded
          else if (f.faulted || (s.headReport e r l).faulted) = true then .faulted else .clean) = _
        rw [hfaulted, Bool.or_false]
      rw [hrow, hcounted.2, hstatus]
      rfl
  case flushMore =>
    exact (State.report_flush_of_flushed (s := s.beginEvent) hf).trans (Flush.counted_of_more hactive hmore)
  case flushLast =>
    exact (State.report_flush_of_flushed (s := s.beginEvent) hf).trans (Flush.counted_of_last hactive hlast)

/-- Settles O35: the count and the log by the outcomes of the PARTIAL words. -/
theorem departureReportsOutcomes : Obligations.DepartureReportsOutcomes := by
  intro s e rest r l bad k h hbad hk
  have hset : s.partialFound e r l .uncorrectable = bad := (partialFound_isWordSet s e r l .uncorrectable).unique hbad
  have hcount : countWords (s.partialFound e r l .corrected) = k :=
    (countWords_eq_card (partialFound_isWordSet s e r l .corrected)).trans hk.symm
  have hchk : (s.beginEvent.depart e rest r l).chk = s.chk.set r (addSaturating s.chk[r] k) := by
    rw [← hcount]
    exact State.depart_chk _ _ _ _ _
  have hself : (s.beginEvent.depart e rest r l).chk[r] = addSaturating s.chk[r] k := by
    rw [hchk]
    exact Vector.getElem_set_self _
  refine ⟨_, exec_departure_of_writingHead h, ?_, fun n hn => ?_, ?_⟩
  · rw [hself, addSaturating_toNat]
  · rw [hchk]
    exact getElem_set_of_ne s.chk hn _
  · rw [hself, ← hcount, ← hset]
    exact State.depart_flg _ _ _ _ _

/-! ## The reads that a departure leaves as they were (R22, R39) -/

/-- The WRITING head of an array write in flight, and where its line lies (R16). -/
theorem QueueSound.writingHead {s : State} (hs : QueueSound s) {r : Rank} {l : RankLine}
    (hc : s.seq.cycle = some (.plainWrite r l) ∨ s.seq.cycle = some (.mergeWrite r l)) :
    ∃ e rest, WritingHead s e rest r l ∧ s.cfg.active.rankOf e.line = some r ∧ s.cfg.active.rankLine r e.line = l := by
  have hwritten : ∃ b, HeadWritten s r l b := by
    obtain ⟨-, -, -, -, -, hw⟩ := hs
    unfold WriteInFlight at hw
    rcases hc with h | h <;> rw [h] at hw <;> exact ⟨_, hw⟩
  obtain ⟨b, e, he, hstate, hrank, hline, -⟩ := hwritten
  cases hpq : s.pq with
  | nil => rw [hpq] at he; cases he
  | cons x rest =>
    rw [hpq] at he
    cases he
    exact ⟨e, rest, ⟨hpq, hstate, hc⟩, hrank, hline⟩

theorem queueMerge_cons (e : Entry) (rest : List Entry) (line : LineAddr) (base : LineData) :
    queueMerge (e :: rest) line base = queueMerge rest line (if e.line = line then mergeBytes e.mask e.data base else base) :=
  rfl

/-- Settles O36: in the head's own line the array takes over the bytes that the head supplied; any other mapped line lies
elsewhere in the array. -/
theorem departureKeepsReads : Obligations.DepartureKeepsReads := by
  intro s t hs ⟨r, l, hcycle⟩ hexec line n hn
  obtain ⟨e, rest, h, hrank, hrankLine⟩ := hs.writingHead hcycle
  rw [exec_departure_of_writingHead h] at hexec
  cases hexec
  have harray : (s.beginEvent.depart e rest r l).array = s.arrayAfterCycle fun _ => true := State.depart_array
  have hpower : (s.beginEvent.depart e rest r l).powerOns = s.powerOns := State.depart_powerOns
  unfold State.readView
  rw [State.depart_pq, State.depart_cfg, State.beginEvent_cfg, h.1, queueMerge_cons]
  refine line_eq_of_bytes fun w p hp => lineByte_queueMerge_congr _ _ (by omega) ?_
  unfold State.handedLine
  by_cases hline : e.line = line
  · subst hline
    obtain rfl : n = r := Option.some.inj (hn.symm.trans hrank)
    rw [if_pos rfl, lineByte_mergeBytes _ _ _ _ (by omega), lineByte_lineOfWords _ _ _ hp, lineByte_lineOfWords _ _ _ hp,
      hrankLine, word_of_departure h harray hpower, wordByte_handed_wordWritten _ _ _ _ hp]
  · have hne : ¬(n = r ∧ s.cfg.active.rankLine n line = l) := by
      rintro ⟨rfl, hl⟩
      exact hline (Settings.line_eq_of_rankLine hrank hn (hrankLine.trans hl.symm))
    rw [if_neg hline, lineByte_lineOfWords _ _ _ hp, lineByte_lineOfWords _ _ _ hp,
      word_of_departure_of_ne h harray hpower hne]

end Sys2Proof.Machine

/-! # The completions of LINE READ, SCRUB and FILL

What each leaves in the array, answers, counts and reports, and where the scrub and fill pointers go (R34 to R38, R71, R72,
R97, R98, R104, R105, R133, R153, R154). -/

namespace Sys2Proof.Machine

/-! ## LINE READ (R34 to R38) -/

section LineRead

variable {s : State} {x : ReadRecord} {rest : List ReadRecord} {r : Rank} {l : RankLine}

theorem exec_lineReadCompletion_of_reading (h : ReadingRecord s x rest r l) :
    exec .lineReadCompletion s = .next (s.beginEvent.finishRead x r l) := by
  obtain ⟨hrt, hx, -, hcycle⟩ := h
  have hreading : (!x.isWaiting) = true := by rw [ReadRecord.isWaiting, hx]; rfl
  have hfind : s.rt.find? (fun y => !y.isWaiting) = some x := by
    rw [hrt]
    exact List.find?_cons_of_pos hreading
  show execLineReadCompletion s = _
  simp only [execLineReadCompletion, State.beginEvent_seq, State.beginEvent_rt, hcycle, hfind]

/-- The records that the READING one leaves in the table are the others. -/
theorem filter_waiting_of_reading (h : ReadingRecord s x rest r l) : s.rt.filter ReadRecord.isWaiting = rest := by
  obtain ⟨hrt, hx, hrest, -⟩ := h
  have hreading : ¬x.isWaiting = true := by rw [ReadRecord.isWaiting, hx]; decide
  rw [hrt, List.filter_cons_of_neg hreading, List.filter_eq_self]
  exact fun y hy => by rw [ReadRecord.isWaiting, hrest y hy]; rfl

theorem State.finishRead_rsp (s : State) (x : ReadRecord) (r : Rank) (l : RankLine) :
    (s.finishRead x r l).rsp = s.rsp ++ [x.answered (.rdata (queueMerge s.pq x.line (s.handedLine r l))
      (poisonSet (s.wordsFound r l .uncorrectable ||| s.wordsFound r l .poisoned) (queueCover s.pq x.line)))] := by
  unfold State.finishRead
  simp

/-- A word of a line that the queue does not cover whole. -/
theorem wordMask_queueCover_ne_ones_iff (q : List Entry) (line : LineAddr) (w : Fin 4) :
    (wordMask (queueCover q line) w != 0xFF) = true ↔ ∃ p < 8, ∀ e ∈ q, ¬e.holdsByte line (8 * w.val + p) := by
  rw [bne_iff_ne, Ne, wordMask_eq_ones_iff]
  simp only [FullWord, queueCover_getLsbD, not_forall, not_exists, not_and, exists_prop]

theorem poisonSet_isWordSet (q : List Entry) (line : LineAddr) {damaged : WordSet} {p : Fin 4 → Prop}
    (hd : IsWordSet damaged p) :
    IsWordSet (poisonSet damaged (queueCover q line)) fun w =>
      p w ∧ ∃ i < 8, ∀ e ∈ q, ¬e.holdsByte line (8 * w.val + i) := by
  intro w
  rw [poisonSet, wordSet_getLsbD, Bool.and_eq_true, hd w, wordMask_queueCover_ne_ones_iff]

theorem IsWordSet.or {a b : WordSet} {p q : Fin 4 → Prop} (ha : IsWordSet a p) (hb : IsWordSet b q) :
    IsWordSet (a ||| b) fun w => p w ∨ q w := by
  intro w
  rw [BitVec.getLsbD_or, Bool.or_eq_true, ha w, hb w]

end LineRead

/-- Settles O37: the data are the queue's merge over the line as handed on, and the poison set its damaged words less those
that the queue supplies whole. -/
theorem lineReadReturnsMerge : Obligations.LineReadReturnsMerge := by
  intro s x rest r l h
  refine ⟨queueMerge s.pq x.line (s.handedLine r l),
    poisonSet (s.wordsFound r l .uncorrectable ||| s.wordsFound r l .poisoned) (queueCover s.pq x.line),
    (s.beginEvent.finishRead x r l).flg, (s.beginEvent.finishRead x r l).chk, ?_,
    fun p hp e he => lineByte_queueMerge_of_youngest hp he _, fun w p hp hnone => ?_,
    poisonSet_isWordSet _ _ ((wordsFound_isWordSet s r l .uncorrectable).or (wordsFound_isWordSet s r l .poisoned))⟩
  · rw [exec_lineReadCompletion_of_reading h, ← filter_waiting_of_reading h]
    refine congrArg Host.Outcome.next ((State.finishRead_frame s.beginEvent x r l).trans ?_)
    rw [State.finishRead_rsp]
    rfl
  · rw [lineByte_queueMerge_of_none (by omega) hnone]
    exact lineByte_lineOfWords _ w p hp

/-- Settles O38: the count and the log by the outcomes of the four words. -/
theorem lineReadReportsOutcomes : Obligations.LineReadReportsOutcomes := by
  intro s x rest r l bad k h hbad hk
  have hset : s.wordsFound r l .uncorrectable = bad := (wordsFound_isWordSet s r l .uncorrectable).unique hbad
  have hcount : countWords (s.wordsFound r l .corrected) = k :=
    (countWords_eq_card (wordsFound_isWordSet s r l .corrected)).trans hk.symm
  have hchk : (s.beginEvent.finishRead x r l).chk = s.chk.set r (addSaturating s.chk[r] k) := by
    rw [← hcount]
    exact State.finishRead_chk _ _ _ _
  have hself : (s.beginEvent.finishRead x r l).chk[r] = addSaturating s.chk[r] k := by
    rw [hchk]
    exact Vector.getElem_set_self _
  refine ⟨_, exec_lineReadCompletion_of_reading h, ?_, fun n hn => ?_, ?_⟩
  · rw [hself, addSaturating_toNat]
  · rw [hchk]
    exact getElem_set_of_ne s.chk hn _
  · rw [hself, ← hcount, ← hset]
    exact State.finishRead_flg _ _ _ _

/-! ## SCRUB (R71, R104, R105) -/

section Scrub

variable {s : State} {r : Rank} {l : RankLine}

theorem exec_scrubCompletion_of_scrub (h : s.seq.cycle = some (.scrub r l)) :
    exec .scrubCompletion s = .next (s.beginEvent.finishScrub r l) := by
  show execScrubCompletion s = _
  simp only [execScrubCompletion, State.beginEvent_seq, h]

/-- The line that a SCRUB reports is the rank's base plus the rank line. -/
theorem Settings.lineOf_eq {c : Settings} {line : LineAddr} (h : line.toNat = c.ranks[r].base.toNat + l.toNat) :
    c.lineOf r l = line := by
  refine BitVec.eq_of_toNat_eq ?_
  rw [Settings.lineOf, BitVec.toNat_ofNat, ← h]
  exact Nat.mod_eq_of_lt line.isLt

/-- A word after a SCRUB: repaired if it was CORRECTED, in the SCRUB's own line. -/
theorem word_of_scrub (h : s.seq.cycle = some (.scrub r l)) {t : State} (ha : t.array = s.arrayAfterCycle fun _ => true)
    (hp : t.powerOns = s.powerOns) (r' : Rank) (l' : RankLine) (w : Fin 4) :
    t.word r' l' w = if r' = r ∧ l' = l ∧ (s.word r l w).outcome = .corrected then freshWord (s.word r l w).handed
      else s.word r' l' w := by
  have hplanned : s.wordPlanned w =
      if (s.word r l w).outcome = .corrected then some (freshWord (s.word r l w).handed) else none := by
    rw [State.wordPlanned, h]
    rfl
  rw [State.word_of_arrayAfterCycle ha hp, h, hplanned]
  by_cases hline : r' = r ∧ l' = l
  · obtain ⟨rfl, rfl⟩ := hline
    by_cases ho : (s.word r' l' w).outcome = .corrected
    · simp [ho, Cycle.target]
    · simp [ho]
  · rw [if_neg, if_neg fun hc => hline ⟨hc.1, hc.2.1⟩]
    rintro ⟨heq, -⟩
    cases heq
    exact hline ⟨rfl, rfl⟩

/-- The pointer's advance depends on the active set and the scrubber alone. -/
theorem State.advancePointer_scr_congr {t : State} (hcfg : t.cfg = s.cfg) (hscr : t.scr = s.scr) :
    t.advancePointer.scr = s.advancePointer.scr := by
  have hown : t.advancePointer.scr = ({ s with cfg := t.cfg, scr := t.scr } : State).advancePointer.scr := by
    unfold State.advancePointer
    dsimp only
    split
    · rfl
    · split <;> rfl
  rw [hown, hcfg, hscr]

theorem State.finishScrub_scr (s : State) (r : Rank) (l : RankLine) : (s.finishScrub r l).scr = s.advancePointer.scr := by
  unfold State.finishScrub
  exact State.advancePointer_scr_congr (by simp) (by simp)

theorem State.advancePointer_of_more (h : s.scr.line.toNat + 1 < s.cfg.active.ranks[s.scr.rank].size.lines) :
    s.advancePointer.scr = { s.scr with line := s.scr.line + 1 } := by
  rw [State.advancePointer, if_pos h]

theorem State.advancePointer_of_next (h : s.cfg.active.ranks[s.scr.rank].size.lines ≤ s.scr.line.toNat + 1) {m : Rank}
    (hm : s.cfg.active.nextRank s.scr.rank = some m) : s.advancePointer.scr = { s.scr with rank := m, line := 0 } := by
  rw [State.advancePointer, if_neg (Nat.not_lt.2 h), hm]

theorem State.advancePointer_of_last (h : s.cfg.active.ranks[s.scr.rank].size.lines ≤ s.scr.line.toNat + 1)
    (hm : s.cfg.active.nextRank s.scr.rank = none) : s.advancePointer.scr =
      { s.scr with rank := s.cfg.active.lowestRank, line := 0, passCount := s.scr.passCount + 1 } := by
  rw [State.advancePointer, if_neg (Nat.not_lt.2 h), hm]

end Scrub

/-- Settles O41: the CORRECTED words are written back and counted, the UNCORRECTABLE ones reported. -/
theorem scrubWritesAndReports : Obligations.ScrubWritesAndReports := by
  intro s r l line bad k h hline hbad hk
  have hset : s.wordsFound r l .uncorrectable = bad := (wordsFound_isWordSet s r l .uncorrectable).unique hbad
  have hcount : countWords (s.wordsFound r l .corrected) = k :=
    (countWords_eq_card (wordsFound_isWordSet s r l .corrected)).trans hk.symm
  obtain ⟨t, ht⟩ : ∃ t, t = s.beginEvent.finishScrub r l := ⟨_, rfl⟩
  have hframe := State.finishScrub_frame s.beginEvent r l
  rw [← ht] at hframe
  have harray : t.array = s.arrayAfterCycle fun _ => true := by rw [hframe]; rfl
  have hpower : t.powerOns = s.powerOns := by rw [hframe]; rfl
  have hchk : t.chk = s.chk.set r (addSaturating s.chk[r] k) := by
    rw [← hcount, ht]
    exact State.finishScrub_chk _ _ _
  have hself : t.chk[r] = addSaturating s.chk[r] k := by
    rw [hchk]
    exact Vector.getElem_set_self _
  have hword := word_of_scrub h harray hpower
  refine ⟨t, t.array, t.flg, t.chk, t.scr, ?_, ?_, fun w hw => ?_, fun r' l' w hne => ?_, ?_, fun n hn => ?_, ?_⟩
  · rw [exec_scrubCompletion_of_scrub h, ht]
  · rw [harray]
    exact hframe
  · rw [hword, if_pos ⟨rfl, rfl, hw⟩]
  · rw [hword, if_neg hne]
  · rw [hself, addSaturating_toNat]
  · rw [hchk]
    exact getElem_set_of_ne s.chk hn _
  · rw [hself, ← hcount, ← hset, ht, ← Settings.lineOf_eq hline]
    exact State.finishScrub_flg _ _ _

/-- Settles O42: the pointer's advance, with the next and the lowest enabled rank named. -/
theorem scrubAdvancesPointer : Obligations.ScrubAdvancesPointer := by
  intro s r l h
  refine ⟨_, exec_scrubCompletion_of_scrub h, ?_⟩
  rw [State.finishScrub_scr]
  refine ⟨fun hmore => State.advancePointer_of_more (s := s.beginEvent) hmore, fun hlast => ⟨fun m hm => ?_,
    fun m hnone hm => ?_⟩⟩
  · exact State.advancePointer_of_next (s := s.beginEvent) hlast (Settings.nextRank_some hm)
  · rw [← Settings.lowestRank_eq hm]
    exact State.advancePointer_of_last (s := s.beginEvent) hlast (Settings.nextRank_none hnone)

/-! ## The mode becoming RUN (R123, R133) -/

section BecomeRun

variable {s : State}

theorem State.startScrub_eq (s : State) : s.startScrub = { s with scr := s.scrubStarted } := by
  unfold State.startScrub State.scrubStarted
  split <;> rfl

theorem State.enterHoldup_eq (s : State) :
    s.enterHoldup = { s with
      mdc := s.holdupEntered, scr := s.scrubStopped
      cfg := if s.cfg.pending then { s.cfg with pending := false, outcome := .cancelled } else s.cfg } := by
  have hcfg := s.enterHoldup_cfg
  rw [State.enterHoldup_frame] at hcfg ⊢
  exact congrArg (fun c : ConfigStore => { s with mdc := s.holdupEntered, scr := s.scrubStopped, cfg := c }) hcfg

/-- With PWARN_N deasserted the mode becomes RUN, and the scrub timer starts if scrub is enabled. -/
theorem State.becomeRun_of_calm (h : s.pins.pwarn = false) :
    s.becomeRun = { s with mdc := { s.mdc with mode := .run }, scr := s.scrubStarted } := by
  have ht : (s.setMode .run).startScrub.pins.pwarn = false := by rw [State.startScrub_frame]; exact h
  unfold State.becomeRun
  rw [if_neg (ne_true_of_eq_false ht), State.startScrub_eq]
  rfl

/-- With PWARN_N asserted and no commit pending, HOLDUP is entered at once. -/
theorem State.becomeRun_of_warned (h : s.pins.pwarn = true) (hc : s.cfg.pending = false) :
    s.becomeRun = { s with mdc := s.holdupEntered, scr := s.scrubStopped } := by
  have hscr := s.becomeRun_scr
  have hmdc := s.becomeRun_mdc
  have hcfg := s.becomeRun_cfg
  rw [if_pos h] at hscr hmdc
  rw [hc, Bool.and_false, if_neg Bool.false_ne_true] at hcfg
  rw [State.becomeRun_frame, hscr, hmdc, hcfg]
  rfl

end BecomeRun

/-! ## FILL (R72, R153, R154) -/

section Fill

variable {s : State} {r : Rank} {l : RankLine}

theorem exec_fillCompletion_of_fill (h : s.seq.cycle = some (.fill r l)) :
    exec .fillCompletion s = .next s.beginEvent.finishWords.endCycle.advanceFill := by
  show execFillCompletion s = _
  simp only [execFillCompletion, State.beginEvent_seq, h]

/-- A word after a FILL: zero in the FILL's own line. -/
theorem word_of_fill (h : s.seq.cycle = some (.fill r l)) {t : State} (ha : t.array = s.arrayAfterCycle fun _ => true)
    (hp : t.powerOns = s.powerOns) (r' : Rank) (l' : RankLine) (w : Fin 4) :
    t.word r' l' w = if r' = r ∧ l' = l then freshWord 0 else s.word r' l' w := by
  have hplanned : s.wordPlanned w = some (freshWord 0) := by
    rw [State.wordPlanned, h]
    rfl
  rw [State.word_of_arrayAfterCycle ha hp, h, hplanned]
  refine if_congr ?_ rfl rfl
  simp only [Option.bind_some, Cycle.target, Option.some.injEq, Prod.mk.injEq, and_true, eq_comm]

theorem State.advanceFill_of_more (h : s.mdc.fillLine.toNat + 1 < s.cfg.active.ranks[s.mdc.fillRank].size.lines) :
    s.advanceFill = { s with mdc := { s.mdc with fillLine := s.mdc.fillLine + 1 } } := if_pos h

theorem State.advanceFill_of_next (h : s.cfg.active.ranks[s.mdc.fillRank].size.lines ≤ s.mdc.fillLine.toNat + 1) {m : Rank}
    (hm : s.cfg.active.nextRank s.mdc.fillRank = some m) :
    s.advanceFill = { s with mdc := { s.mdc with fillRank := m, fillLine := 0 } } := by
  rw [State.advanceFill, if_neg (Nat.not_lt.2 h), hm]

theorem State.advanceFill_of_last (h : s.cfg.active.ranks[s.mdc.fillRank].size.lines ≤ s.mdc.fillLine.toNat + 1)
    (hm : s.cfg.active.nextRank s.mdc.fillRank = none) : s.advanceFill = s.endFill := by
  rw [State.advanceFill, if_neg (Nat.not_lt.2 h), hm]

theorem State.advanceFill_cfg (h : s.cfg.pending = false) : s.advanceFill.cfg = s.cfg := by
  unfold State.advanceFill State.endFill
  split
  · rfl
  split
  · rfl
  · rw [State.becomeRun_cfg, h, Bool.and_false, if_neg Bool.false_ne_true]

end Fill

/-- Settles O43: the four zero words, and the fill pointer's advance or the end of the fill. -/
theorem fillCompletes : Obligations.FillCompletes := by
  intro s r l h hpending
  obtain ⟨u, hu⟩ : ∃ u, u = s.beginEvent.finishWords.endCycle := ⟨_, rfl⟩
  obtain ⟨t, ht⟩ : ∃ t, t = u.advanceFill := ⟨_, rfl⟩
  have hcfg : u.cfg = s.cfg := by rw [hu]; rfl
  have htcfg : t.cfg = s.cfg := by rw [ht, State.advanceFill_cfg (by rw [hcfg]; exact hpending), hcfg]
  have hframe : t = { s.sending [] [] with
      array := s.arrayAfterCycle fun _ => true, mdc := t.mdc, scr := t.scr, seq := { s.seq with cycle := none } } := by
    have hadvance := u.advanceFill_frame
    rw [← ht, htcfg, hu] at hadvance
    exact hadvance
  have harray : t.array = s.arrayAfterCycle fun _ => true := by rw [hframe]
  have hpower : t.powerOns = s.powerOns := by rw [hframe]; rfl
  have hword := word_of_fill h harray hpower
  refine ⟨t, t.array, t.mdc, t.scr, ?_, ?_, fun w => ?_, fun r' l' w hne => ?_, fun hmore => ?more, fun hlast =>
    ⟨fun m hm => ?next, fun hnone => ?_⟩⟩
  · rw [exec_fillCompletion_of_fill h, ht, hu]
  · rw [harray]
    exact hframe
  · rw [hword, if_pos ⟨rfl, rfl⟩]
  · rw [hword, if_neg hne]
  case more =>
    rw [ht, hu, State.advanceFill_of_more (by exact hmore)]
    exact ⟨rfl, rfl⟩
  case next =>
    rw [ht, hu, State.advanceFill_of_next (by exact hlast) (by exact Settings.nextRank_some hm)]
    exact ⟨rfl, rfl⟩
  rw [ht, hu, State.advanceFill_of_last (by exact hlast) (by exact Settings.nextRank_none hnone)]
  refine ⟨fun hcalm => ?run, fun hwarned => ?holdup⟩
  case run =>
    rw [State.endFill, State.becomeRun_of_calm (by exact hcalm)]
    exact ⟨rfl, rfl⟩
  case holdup =>
    rw [State.endFill, State.becomeRun_of_warned (by exact hwarned) (by exact hpending)]
    exact ⟨rfl, rfl⟩

end Sys2Proof.Machine

/-! # The mode operations, the hold-up expiry, the power warning and the commit

The completions that change the mode (R73, R75, R87, R129, R132, R152), the expiry of the hold-up timer (R127), the changes
of level on PWARN_N (Table 8-2) and the application of a commit at the quiet point (R143, R144). -/

namespace Sys2Proof.Machine

/-! ## The end of INIT (R152) -/

section EndInit

variable {s : State}

theorem State.startTicks_timer (s : State) (n : Rank) :
    s.startTicks.rfs[n].timer = s.freshTimer s.cfg.active.ranks[n].enable s.cfg.active.refreshInterval.toNat := by
  simp only [State.startTicks, Fin.getElem_fin, Vector.getElem_ofFn]
  rfl

theorem exec_powerUpCompletion_of_init (hmode : s.mdc.mode = .init) (hc : s.seq.cycle = some .powerUp) :
    exec .powerUpCompletion s = .next (s.beginEvent.endCycle.setCondition .active).endInit := by
  show execPowerUpCompletion s = _
  simp only [execPowerUpCompletion, State.beginEvent_seq, hc]
  exact congrArg Host.Outcome.next (if_pos hmode)

theorem exec_selfRefreshExitCompletion (hc : s.seq.cycle = some .selfRefreshExit) :
    exec .selfRefreshExitCompletion s = .next (s.beginEvent.endCycle.setCondition .active).finishExit := by
  show execSelfRefreshExitCompletion s = _
  simp only [execSelfRefreshExitCompletion, State.beginEvent_seq, hc]

theorem State.finishExit_of_init (h : s.mdc.mode = .init) : s.finishExit = s.endInit := by
  rw [State.finishExit, h]

theorem State.finishExit_of_resume (h : s.mdc.mode = .resume) : s.finishExit = s.clearDebts.startTicks.becomeRun := by
  rw [State.finishExit, h]

theorem State.endInit_of_unfilled (h : s.mdc.record.fillComplete = false) :
    s.endInit = s.startTicks.raiseReady.startFill := if_neg (ne_true_of_eq_false h)

theorem State.endInit_of_filled (h : s.mdc.record.fillComplete = true) :
    s.endInit = s.startTicks.raiseReady.becomeRun := if_pos h

end EndInit

/-- Settles O44: the first operation ends INIT, into FILL or into RUN by the fill, and from RUN into HOLDUP by PWARN_N. -/
theorem initEnds : Obligations.InitEnds := by
  intro s hmode hpending
  refine ⟨s.startTicks.rfs, fun n => ⟨s.startTicks_debt n, s.startTicks_timer n⟩, fun i hi => ?_⟩
  have hexec : exec i s = .next (s.beginEvent.endCycle.setCondition .active).endInit := by
    rcases hi with ⟨rfl, hc⟩ | ⟨rfl, hc⟩
    · exact exec_powerUpCompletion_of_init hmode hc
    · rw [exec_selfRefreshExitCompletion hc, State.finishExit_of_init (by exact hmode)]
  rw [hexec]
  refine ⟨fun m hfill hm => ?fill, fun hfill hcalm => ?run, fun hfill hwarned => ?holdup⟩
  case fill =>
    rw [State.endInit_of_unfilled (by exact hfill), ← Settings.lowestRank_eq hm]
    rfl
  case run =>
    rw [State.endInit_of_filled (by exact hfill), State.becomeRun_of_calm (by exact hcalm)]
    rfl
  case holdup =>
    rw [State.endInit_of_filled (by exact hfill), State.becomeRun_of_warned (by exact hwarned) (by exact hpending)]
    rfl

/-- Settles O46: the exit clears the debts, restarts the ticks, and the mode becomes RUN, or HOLDUP by PWARN_N. -/
theorem resumeEnds : Obligations.ResumeEnds := by
  intro s hmode hc hpending
  have hdebt : ∀ n : Rank, s.clearDebts.rfs[n].debt = 0 := fun n => by
    simp only [State.clearDebts, Fin.getElem_fin, Vector.getElem_map]
  refine ⟨s.clearDebts.startTicks.rfs, fun n => ⟨(s.clearDebts.startTicks_debt n).trans (hdebt n),
    s.clearDebts.startTicks_timer n⟩, ?_⟩
  rw [exec_selfRefreshExitCompletion hc, State.finishExit_of_resume (by exact hmode)]
  refine ⟨fun hcalm => ?run, fun hwarned => ?holdup⟩
  case run =>
    rw [State.becomeRun_of_calm (by exact hcalm)]
    rfl
  case holdup =>
    rw [State.becomeRun_of_warned (by exact hwarned) (by exact hpending)]
    rfl

/-! ## The entry to self-refresh (R129) -/

theorem not_isWaiting_eq : (fun x : ReadRecord => !x.isWaiting) = fun x => x.state == .reading := by
  funext x
  unfold ReadRecord.isWaiting
  cases x.state <;> rfl

/-- Settles O45: the entry refuses the WAITING reads, stops the timers and sets the mode by PWARN_N. -/
theorem entryCompletionRetains : Obligations.EntryCompletionRetains := by
  intro s hc
  refine ⟨s.stopTicks.rfs, ?_, fun n => ?_⟩
  · have hexec : exec .selfRefreshEntryCompletion s = .next s.beginEvent.finishEntry := by
      show execSelfRefreshEntryCompletion s = _
      simp only [execSelfRefreshEntryCompletion, State.beginEvent_seq, hc]
    rw [hexec, ← not_isWaiting_eq]
    rfl
  · simp only [State.stopTicks, Fin.getElem_fin, Vector.getElem_map]

/-! ## The hold-up expiry (R127) -/

section HoldupExpiry

variable {s : State}

theorem exec_holdupExpiry_of_due {d : Time} (ht : s.mdc.holdupTimer = .running d) (hd : d ≤ s.now) :
    exec .holdupExpiry s = .next s.beginEvent.expireHoldup := by
  have hdue : s.beginEvent.mdc.holdupTimer.due s.beginEvent.now = true := by
    rw [State.beginEvent_mdc, ht]
    exact decide_eq_true hd
  exact congrArg Host.Outcome.next (if_pos hdue)

theorem isWriting_eq_false_iff (e : Entry) : (!e.isWriting) = (e.state == .queued) := by
  unfold Entry.isWriting
  cases e.state <;> rfl

theorem State.queuedCount_eq (s : State) : s.queuedCount = (s.pq.filter fun e => e.state == .queued).length := by
  rw [State.queuedCount, List.countP_eq_length_filter, funext isWriting_eq_false_iff]

/-- The FDONEs of the discards leave first, and the refusals of the WAITING reads after them. -/
theorem State.expireHoldup_rsp (s : State) : s.expireHoldup.rsp = s.discardQueued.rsp ++ s.refusals := by
  unfold State.expireHoldup
  dsimp only
  rw [State.faultIf_frame]
  show s.discardQueued.rsp ++ (s.discardQueued.rt.filter ReadRecord.isWaiting).map _ = _
  rw [State.discardQueued_rt]
  rfl

theorem State.expireHoldup_flg (s : State) :
    s.expireHoldup.flg = if s.queuedCount = 0 then s.flg else s.flg.take (.holdupDiscard s.queuedCount) := by
  have hflg : s.discardQueued.refuseWaiting.flg = s.flg := s.discardQueued_flg
  show (s.discardQueued.refuseWaiting.faultIf (s.queuedCount != 0) (.holdupDiscard s.queuedCount)).flg = _
  rw [State.faultIf_flg, hflg]
  by_cases hk : s.queuedCount = 0
  · rw [hk]
    rfl
  · rw [if_pos (bne_iff_ne.2 hk), if_neg hk]

end HoldupExpiry

/-- Settles O48: the expiry is the discard, the refusals, the loss event and the stop of the timer. -/
theorem holdupExpiryDiscards : Obligations.HoldupExpiryDiscards := by
  intro s d k ht hd hk
  refine ⟨s.beginEvent.discardQueued.rsp, s.beginEvent.discardQueued.ft, ?_⟩
  have hflg : s.beginEvent.expireHoldup.flg = if k = 0 then s.flg else s.flg.take (.holdupDiscard k) := by
    rw [hk, ← s.queuedCount_eq]
    exact State.expireHoldup_flg _
  rw [exec_holdupExpiry_of_due ht hd, State.expireHoldup_frame, hflg, State.expireHoldup_rsp, ← not_isWaiting_eq]
  rfl

/-! ## The power warning (Table 8-2) -/

theorem State.returnToRun_eq (s : State) :
    s.returnToRun = { s with mdc := { s.mdc with mode := .run, holdupTimer := .stopped }, scr := s.scrubStarted } :=
  State.startScrub_eq _

section Warning

variable {s : State}

theorem exec_pwarnAsserted_in_run (hp : s.pins.pwarn = false) (hm : s.mdc.mode = .run) :
    exec .pwarnAsserted s = .next (s.beginEvent.setPwarn true).enterHoldup := by
  show execPwarnAsserted s = _
  simp only [execPwarnAsserted, State.beginEvent_pins, hp, State.beginEvent_mdc, hm]
  rfl

theorem exec_pwarnAsserted_elsewhere (hp : s.pins.pwarn = false) (hm : s.mdc.mode ≠ .run) :
    exec .pwarnAsserted s = .next (s.beginEvent.setPwarn true) := by
  show execPwarnAsserted s = _
  simp only [execPwarnAsserted, State.beginEvent_pins, hp, State.beginEvent_mdc]
  cases h : s.mdc.mode
  case run => exact absurd h hm
  all_goals rfl

theorem exec_pwarnDeasserted_in_holdup (hp : s.pins.pwarn = true) (hm : s.mdc.mode = .holdup)
    (hc : s.seq.cycle ≠ some .selfRefreshEntry) :
    exec .pwarnDeasserted s = .next (s.beginEvent.setPwarn false).returnToRun := by
  show execPwarnDeasserted s = _
  simp only [execPwarnDeasserted, State.beginEvent_pins, hp, State.beginEvent_mdc, hm, Bool.not_true, Bool.false_eq_true,
    if_false]
  exact congrArg Host.Outcome.next (if_neg hc)

theorem exec_pwarnDeasserted_in_retain (hp : s.pins.pwarn = true) (hm : s.mdc.mode = .retain) :
    exec .pwarnDeasserted s = .next ((s.beginEvent.setPwarn false).setMode .resume) := by
  show execPwarnDeasserted s = _
  simp only [execPwarnDeasserted, State.beginEvent_pins, hp, State.beginEvent_mdc, hm]
  rfl

theorem exec_pwarnDeasserted_elsewhere (hp : s.pins.pwarn = true)
    (hm : s.mdc.mode ≠ .holdup ∨ s.seq.cycle = some .selfRefreshEntry) (hr : s.mdc.mode ≠ .retain) :
    exec .pwarnDeasserted s = .next (s.beginEvent.setPwarn false) := by
  show execPwarnDeasserted s = _
  simp only [execPwarnDeasserted, State.beginEvent_pins, hp, State.beginEvent_mdc, Bool.not_true, Bool.false_eq_true, if_false]
  cases h : s.mdc.mode
  case holdup => exact congrArg Host.Outcome.next (if_pos (hm.resolve_left (not_not_intro h)))
  case retain => exact absurd h hr
  all_goals rfl

end Warning

/-- Settles O50: the rows of the table of changes on PWARN_N. -/
theorem powerWarningByMode : Obligations.PowerWarningByMode := by
  refine ⟨fun s hp => ⟨fun hm => ?entered, fun hm => exec_pwarnAsserted_elsewhere hp hm⟩,
    fun s hp => ⟨fun hm hc => ?returned, fun hm => exec_pwarnDeasserted_in_retain hp hm,
      fun hm hr => exec_pwarnDeasserted_elsewhere hp hm hr⟩⟩
  case entered =>
    rw [exec_pwarnAsserted_in_run hp hm, State.enterHoldup_eq]
    rfl
  case returned =>
    rw [exec_pwarnDeasserted_in_holdup hp hm hc, State.returnToRun_eq]
    rfl

/-! ## The commit at the quiet point (R143, R144) -/

section Commit

variable {s : State}

theorem State.quiet_iff (s : State) : s.quiet = true ↔ s.pq = [] ∧ s.rt = [] ∧ RowsFree s ∧ s.seq.cycle = none := by
  rw [State.quiet, Bool.and_eq_true, Bool.and_eq_true, Bool.and_eq_true, List.isEmpty_iff, List.isEmpty_iff, s.rowsFree_iff,
    State.idle, Option.isNone_iff_eq_none, and_assoc, and_assoc]

theorem exec_quietPointApplication_of_quiet (hp : s.cfg.pending = true) (hq : s.quiet = true) :
    exec .quietPointApplication s = .next s.beginEvent.applyCommit :=
  congrArg Host.Outcome.next (if_pos (Bool.and_eq_true_iff.2 ⟨hp, hq⟩))

theorem exec_quietPointApplication_of_not_quiet (h : ¬(s.cfg.pending = true ∧ s.quiet = true)) :
    exec .quietPointApplication s = .next s.beginEvent :=
  congrArg Host.Outcome.next (if_neg (mt Bool.and_eq_true_iff.1 h))

theorem State.applyCommit_rank (s : State) (n : Rank) :
    s.applyCommit.rfs[n] = refreshAtCommit s.cfg.active s.cfg.staged s.now n s.rfs[n] ∧
      s.applyCommit.chk[n] = if rankUnchanged s.cfg.active s.cfg.staged n then s.chk[n] else 0 := by
  constructor <;> simp only [State.applyCommit, Fin.getElem_fin, Vector.getElem_ofFn]

theorem refreshAtCommit_of_unchanged {old new : Settings} {n : Rank} (h : UnchangedRank old new n) (now : Time)
    (x : RankRefresh) : refreshAtCommit old new now n x = x := if_pos ((rankUnchanged_iff _ _ _).2 h)

theorem refreshAtCommit_of_changed {old new : Settings} {n : Rank} (h : ¬UnchangedRank old new n) (now : Time)
    (x : RankRefresh) : refreshAtCommit old new now n x =
      { debt := 0, timer := if new.ranks[n].enable then .running (now + new.refreshTime) else .stopped } :=
  if_neg (mt (rankUnchanged_iff _ _ _).1 h)

/-- The pointer's adjustment keeps the pass count, the timer and the due flag. -/
theorem scrubPointerAtCommit_rest (old new : Settings) (x : Scrubber) :
    (scrubPointerAtCommit old new x).passCount = x.passCount ∧ (scrubPointerAtCommit old new x).timer = x.timer ∧
      (scrubPointerAtCommit old new x).due = x.due := by
  unfold scrubPointerAtCommit
  split <;> exact ⟨rfl, rfl, rfl⟩

/-- The timer's adjustment keeps the pointer and the pass count. -/
theorem scrubTimerAtCommit_rest (old new : Settings) (now : Time) (x : Scrubber) :
    (scrubTimerAtCommit old new now x).rank = x.rank ∧ (scrubTimerAtCommit old new now x).line = x.line ∧
      (scrubTimerAtCommit old new now x).passCount = x.passCount := by
  unfold scrubTimerAtCommit
  split
  · split <;> exact ⟨rfl, rfl, rfl⟩
  · exact ⟨rfl, rfl, rfl⟩

theorem scrubPointerAtCommit_of_unchanged {old new : Settings} {x : Scrubber} (h : UnchangedRank old new x.rank) :
    scrubPointerAtCommit old new x = x := if_pos ((rankUnchanged_iff _ _ _).2 h)

theorem scrubPointerAtCommit_of_changed {old new : Settings} {x : Scrubber} (h : ¬UnchangedRank old new x.rank) :
    scrubPointerAtCommit old new x = { x with rank := new.lowestRank, line := 0 } :=
  if_neg (mt (rankUnchanged_iff _ _ _).1 h)

theorem scrubTimerAtCommit_of_off {old new : Settings} (h : new.scrubEnable = false) (now : Time) (x : Scrubber) :
    scrubTimerAtCommit old new now x = { x with timer := .stopped, due := false } := if_neg (ne_true_of_eq_false h)

theorem scrubTimerAtCommit_of_kept {old new : Settings} (hn : new.scrubEnable = true) (ho : old.scrubEnable = true)
    (now : Time) (x : Scrubber) : scrubTimerAtCommit old new now x = x := by
  rw [scrubTimerAtCommit, if_pos hn, if_pos ho]

theorem scrubTimerAtCommit_of_started {old new : Settings} (hn : new.scrubEnable = true) (ho : old.scrubEnable = false)
    (now : Time) (x : Scrubber) :
    scrubTimerAtCommit old new now x = { x with timer := .running (now + new.scrubTime), due := false } := by
  rw [scrubTimerAtCommit, if_pos hn, if_neg (ne_true_of_eq_false ho)]

end Commit

/-- Settles O51: at the quiet point each block adjusts to the staged set; elsewhere nothing happens. -/
theorem commitAppliedAtQuietPoint : Obligations.CommitAppliedAtQuietPoint := by
  intro s
  refine ⟨fun hp hpq hrt hrows hidle => ?applied, fun hnot => ?nothing⟩
  case nothing =>
    refine exec_quietPointApplication_of_not_quiet ?_
    rw [s.quiet_iff]
    rintro ⟨hp, hpq, hrt, hrows, hidle⟩
    rcases hnot with h | h | h | h | h
    exacts [absurd hp (ne_true_of_eq_false h), h hpq, h hrt, h hrows, h hidle]
  case applied =>
    have hexec := exec_quietPointApplication_of_quiet hp (s.quiet_iff.2 ⟨hpq, hrt, hrows, hidle⟩)
    obtain ⟨y, hy⟩ : ∃ y, y = scrubTimerAtCommit s.cfg.active s.cfg.staged s.now s.scr := ⟨_, rfl⟩
    obtain ⟨hrank, hline, hpass⟩ := scrubTimerAtCommit_rest s.cfg.active s.cfg.staged s.now s.scr
    obtain ⟨hpass', htimer', hdue'⟩ := scrubPointerAtCommit_rest s.cfg.active s.cfg.staged y
    rw [← hy] at hrank hline hpass
    refine ⟨s.applyCommit.rfs, s.applyCommit.chk, scrubPointerAtCommit s.cfg.active s.cfg.staged y, ?_, fun n hn => ?_,
      fun n hn => ?_, hpass'.trans hpass, fun hn => ?_, fun m hn hm => ?_, fun hoff => ?_, fun hn ho => ?_,
      fun hn ho => ?_⟩
    · rw [hexec, hy]
      rfl
    · obtain ⟨hrfs, hchk⟩ := s.applyCommit_rank n
      exact ⟨hrfs.trans (refreshAtCommit_of_unchanged hn _ _), hchk.trans (if_pos ((rankUnchanged_iff _ _ _).2 hn))⟩
    · obtain ⟨hrfs, hchk⟩ := s.applyCommit_rank n
      rw [hrfs, hchk, refreshAtCommit_of_changed hn]
      exact ⟨if_neg (mt (rankUnchanged_iff _ _ _).1 hn), rfl, rfl⟩
    · rw [← hrank] at hn
      rw [scrubPointerAtCommit_of_unchanged hn]
      exact ⟨hrank, hline⟩
    · rw [← hrank] at hn
      rw [scrubPointerAtCommit_of_changed hn, Settings.lowestRank_eq hm]
      exact ⟨rfl, rfl⟩
    · rw [htimer', hdue', hy, scrubTimerAtCommit_of_off hoff]
      exact ⟨rfl, rfl⟩
    · rw [htimer', hdue', hy, scrubTimerAtCommit_of_kept hn ho]
      exact ⟨rfl, rfl⟩
    · rw [htimer', hdue', hy, scrubTimerAtCommit_of_started hn ho]
      exact ⟨rfl, rfl⟩

end Sys2Proof.Machine

/-! # Resets and commands

What the three resets leave (R148 to R150, R157, R166), what a reset makes of a cycle in flight (R76, R77), and the commands
FLUSH, COMMIT, ABORT_COMMIT and those that no code names (Tables 3-5 and 9-2, R145, R164). -/

namespace Sys2Proof.Machine

/-! ## The reset values -/

theorem rankSizeOfCode_lines : ∀ c : BitVec 2, (rankSizeOfCode c).lines = 4194304 * 2 ^ c.toNat := by decide

theorem strapAddress_toNat (st : Straps) : (strapAddress st).toNat = 0x5C + st.maddr.toNat := by
  have hall : ∀ m : BitVec 2, ((0x5C : BitVec 7) + m.setWidth 7).toNat = 0x5C + m.toNat := by decide
  exact hall st.maddr

theorem strapDerived_rank (st : Straps) (n : Rank) :
    (strapDerived st).ranks[n].enable = decide (n.val ≤ st.ranks.toNat) ∧
      (strapDerived st).ranks[n].size.lines = 4194304 * 2 ^ st.size.toNat ∧
      (strapDerived st).ranks[n].base.toNat = n.val * (4194304 * 2 ^ st.size.toNat) := by
  have hrank : (strapDerived st).ranks[n] =
      { enable := decide (n.val ≤ st.ranks.toNat), size := rankSizeOfCode st.size
        base := BitVec.ofNat 28 (n.val * (rankSizeOfCode st.size).lines) } := Vector.getElem_ofFn _
  rw [hrank, ← rankSizeOfCode_lines]
  refine ⟨rfl, rfl, ?_⟩
  rw [BitVec.toNat_ofNat, Nat.mod_eq_of_lt]
  have hlines := (RankSize.lines_bounds (rankSizeOfCode st.size)).2
  calc n.val * (rankSizeOfCode st.size).lines
    _ ≤ 3 * 33554432 := Nat.mul_le_mul (by omega) hlines
    _ < 2 ^ 28 := by decide

/-- The blocks after any reset hold the reset values. -/
theorem State.resetBlocks_values (s : State) (st : Straps) (r : ResetRecord) : ResetValues (s.resetBlocks st r) st :=
  ⟨rfl, rfl, rfl, rfl, rfl, rfl, rfl, rfl, fun _ => Vector.getElem_replicate _, rfl, fun _ => Vector.getElem_replicate _,
    fun _ => Vector.getElem_replicate _, rfl, rfl, strapDerived_rank st, rfl, rfl, rfl, rfl, rfl, rfl, rfl, rfl, rfl, rfl, rfl,
    rfl, strapAddress_toNat st, rfl, rfl, rfl, rfl⟩

theorem State.warmReset_values (s : State) (c : ResetCause) (st : Straps) : ResetValues (s.warmReset c st) st :=
  State.resetBlocks_values _ _ _

/-- A reset taken on an idle SEQ leaves the array as it was. -/
theorem State.warmReset_array_of_idle {s : State} (h : s.seq.cycle = none) (c : ResetCause) (st : Straps) :
    (s.warmReset c st).array = s.array := by
  rw [State.warmReset_array, State.idle, h]
  rfl

/-- A reset taken during a cycle cuts it short. -/
theorem State.warmReset_array_of_busy {s : State} {k : Cycle} (h : s.seq.cycle = some k) (c : ResetCause) (st : Straps) :
    (s.warmReset c st).array = s.arrayAfterCycle (Config.cutTakesNew s.cuts) := by
  rw [State.warmReset_array, State.idle, h]
  rfl

section Resets

variable {s : State}

theorem exec_externalReset_of_high (h : s.pins.rst = false) (st : Straps) :
    exec (.externalReset st) s = .next ((s.beginEvent.warmReset .external st).setRst true) :=
  congrArg Host.Outcome.next (if_neg (ne_true_of_eq_false h))

theorem exec_reset_of_awaited {hi lo : Byte} (h : CommandAwaited s hi) (hc : lo.setWidth 4 = (7 : BitVec 4)) (st : Straps) :
    exec (.reset lo st) s = .next ((s.beginEvent.warmReset .maintenance st).signal .ack) := by
  have hhere : ((fun p : BitVec 8 => p == commandAddress && commandCode lo == 7) s.mnt.pointer) = true := by
    have hcode : commandCode lo = 7 := hc
    rw [h.2, hcode]
    rfl
  exact congrArg Host.Outcome.next (s.beginEvent.lowByte_taken _ _ hi h.1 hhere)

end Resets

/-- Settles O52: each reset is the reset values over the array that it leaves, with its record. -/
theorem resetsLeaveResetValues : Obligations.ResetsLeaveResetValues := by
  refine ⟨fun s p => ?powerOn, fun s st h => ?external, fun s st h => ?held, fun s => rfl, fun s hi lo st h hc => ?reset⟩
  case powerOn =>
    exact ⟨_, rfl, s.beginEvent.resetBlocks_values p.straps powerOnRecord, rfl, rfl, rfl, rfl, rfl, rfl, rfl, rfl, rfl, rfl⟩
  case external =>
    refine ⟨_, exec_externalReset_of_high h st, s.beginEvent.warmReset_values .external st, ?_, fun hidle => ?_, ?_, ?_, ?_,
      ?_, ?_, ?_, rfl, rfl⟩
    case refine_2 => exact State.warmReset_array_of_idle (s := s.beginEvent) hidle .external st
    all_goals simp [State.setRst]
  case held => exact congrArg Host.Outcome.next (if_pos h)
  case reset =>
    refine ⟨_, exec_reset_of_awaited h hc st, s.beginEvent.warmReset_values .maintenance st, ?_, fun hidle => ?_, ?_, ?_, ?_,
      ?_, ?_, ?_, ?_, rfl⟩
    case refine_2 => exact State.warmReset_array_of_idle (s := s.beginEvent) hidle .maintenance st
    all_goals simp

/-- Settles O53: the cut takes, word by word, what the completion would have written or what stood before. -/
theorem resetCutsCycle : Obligations.ResetCutsCycle := by
  intro s t u c st hi lo i hs hc hu hi' ht
  obtain ⟨huarray, hupower⟩ := State.array_of_completion hs hc hu
  have hcut : t.seq.cycle = none ∧ t.flg.records = [] ∧ t.powerOns = s.powerOns ∧
      t.array = s.arrayAfterCycle (Config.cutTakesNew s.cuts) := by
    rcases hi' with ⟨rfl, hrst⟩ | ⟨rfl, hawaited, hcode⟩
    · rw [exec_externalReset_of_high hrst] at ht
      cases ht
      exact ⟨rfl, rfl, s.beginEvent.warmReset_powerOns .external st,
        State.warmReset_array_of_busy (s := s.beginEvent) hc .external st⟩
    · rw [exec_reset_of_awaited hawaited hcode] at ht
      cases ht
      exact ⟨rfl, rfl, s.beginEvent.warmReset_powerOns .maintenance st,
        State.warmReset_array_of_busy (s := s.beginEvent) hc .maintenance st⟩
  obtain ⟨hcycle, hrecords, htpower, htarray⟩ := hcut
  refine ⟨hcycle, hrecords, fun r l w => ?_⟩
  rw [State.word_of_arrayAfterCycle htarray htpower, State.word_of_arrayAfterCycle huarray hupower]
  by_cases htarget : s.seq.cycle.bind Cycle.target = some (r, l)
  · by_cases htakes : Config.cutTakesNew s.cuts w = true
    · rw [if_pos ⟨htarget, htakes⟩, if_pos ⟨htarget, rfl⟩]
      exact .inr rfl
    · rw [if_neg fun h => htakes h.2]
      exact .inl rfl
  · rw [if_neg fun h => htarget h.1]
    exact .inl rfl

/-! ## FLUSH, COMMIT and ABORT_COMMIT -/

section Commands

variable {s : State} {hi lo : Byte}

theorem State.takeFlush_of_active (h : s.ft.flush.active = true) : s.takeFlush = (s, .busy) := if_pos h

theorem State.takeFlush_of_empty (h : s.ft.flush.active = false) (hpq : s.pq = []) : s.takeFlush =
    ({ s with ft := { s.ft with flush := { s.ft.flush with complete := true } } }, .done) := by
  rw [State.takeFlush, if_neg (ne_true_of_eq_false h), if_pos (List.isEmpty_iff.2 hpq)]

theorem State.takeFlush_of_entries (h : s.ft.flush.active = false) (hpq : s.pq ≠ []) : s.takeFlush =
    ({ s with
      pq := s.pq.map fun e => { e with flushed := true, isOpen := false }
      ft := { s.ft with flush := { active := true, remaining := s.pq.length, complete := false } } }, .done) := by
  rw [State.takeFlush, if_neg (ne_true_of_eq_false h), if_neg (mt List.isEmpty_iff.1 hpq)]
  rfl

theorem State.takeCommit_of_not_running (h : s.mdc.mode ≠ .run) : s.takeCommit = s.rejectCommit .notRunning := if_pos h

theorem State.takeCommit_of_pending (h : s.mdc.mode = .run) (hp : s.cfg.pending = true) : s.takeCommit = (s, .busy) := by
  rw [State.takeCommit, if_neg (not_not_intro h), if_pos hp]

theorem State.takeCommit_of_illegal (h : s.mdc.mode = .run) (hp : s.cfg.pending = false) {r : CommitReason}
    (hc : commitCheck s.cfg.staged = some r) : s.takeCommit = s.rejectCommit r := by
  rw [State.takeCommit, if_neg (not_not_intro h), if_neg (ne_true_of_eq_false hp), hc]

theorem State.takeCommit_of_legal (h : s.mdc.mode = .run) (hp : s.cfg.pending = false) (hc : commitCheck s.cfg.staged = none) :
    s.takeCommit = ({ s with cfg := { s.cfg with pending := true, outcome := .accepted } }, .accepted) := by
  rw [State.takeCommit, if_neg (not_not_intro h), if_neg (ne_true_of_eq_false hp), hc]

theorem State.takeAbort_of_pending (h : s.cfg.pending = true) : s.takeAbort =
    ({ s with cfg := { s.cfg with pending := false, outcome := .aborted } }, .done) := if_pos h

theorem State.takeAbort_of_none (h : s.cfg.pending = false) : s.takeAbort = (s, .notPending) :=
  if_neg (ne_true_of_eq_false h)

theorem exec_flush_of_awaited (h : CommandAwaited s hi) (hc : commandCode lo = 1) :
    exec (.flush lo) s = .next (s.beginEvent.takeFlush.1.commandDone 1 s.beginEvent.takeFlush.2) :=
  congrArg Host.Outcome.next (State.command_eq_commandDone h hc s.beginEvent.takeFlush_mnt
    (by rw [State.takeFlush_frame]; rfl) (by rw [State.takeFlush_frame]; rfl))

theorem exec_commit_of_awaited (h : CommandAwaited s hi) (hc : commandCode lo = 5) :
    exec (.commit lo) s = .next (s.beginEvent.takeCommit.1.commandDone 5 s.beginEvent.takeCommit.2) :=
  congrArg Host.Outcome.next (State.command_eq_commandDone h hc s.beginEvent.takeCommit_mnt
    (by rw [State.takeCommit_frame]; rfl) (by rw [State.takeCommit_frame]; rfl))

theorem exec_abortCommit_of_awaited (h : CommandAwaited s hi) (hc : commandCode lo = 6) :
    exec (.abortCommit lo) s = .next (s.beginEvent.takeAbort.1.commandDone 6 s.beginEvent.takeAbort.2) :=
  congrArg Host.Outcome.next (State.command_eq_commandDone h hc s.beginEvent.takeAbort_mnt
    (by rw [State.takeAbort_frame]; rfl) (by rw [State.takeAbort_frame]; rfl))

theorem namesNoCommand_of {code : BitVec 4} (h : code = 0 ∨ 8 ≤ code.toNat) : namesNoCommand code = true := by
  revert code
  decide

theorem exec_unknownCommand_of_awaited (h : CommandAwaited s hi) {code : BitVec 4} (hc : commandCode lo = code)
    (hcode : code = 0 ∨ 8 ≤ code.toNat) : exec (.unknownCommand lo) s = .next (s.commandDone code .unknown) := by
  subst hc
  refine congrArg Host.Outcome.next ((if_pos (namesNoCommand_of hcode)).trans ?_)
  exact State.command_eq_commandDone h rfl rfl rfl rfl

end Commands

/-- Settles O55: each command completes on its own effect, which is by the flush, the mode and the commit state. -/
theorem flushAndCommitCommands : Obligations.FlushAndCommitCommands := by
  intro s hi lo h
  refine ⟨fun hc => ?flush, fun hc => ?commit, fun hc => ?abort, fun code hc hcode => exec_unknownCommand_of_awaited h hc hcode⟩
  case flush =>
    rw [exec_flush_of_awaited h hc]
    refine ⟨fun ha => ?_, fun ha hpq => ?_, fun ha hpq => ?_⟩
    · rw [State.takeFlush_of_active (by exact ha)]; rfl
    · rw [State.takeFlush_of_empty (by exact ha) (by exact hpq)]; rfl
    · rw [State.takeFlush_of_entries (by exact ha) (by exact hpq)]; rfl
  case commit =>
    rw [exec_commit_of_awaited h hc]
    refine ⟨fun hm => ?_, fun hm hp => ?_, fun hm hp => ⟨fun r hr => ?_, fun hlegal => ?_⟩⟩
    · rw [State.takeCommit_of_not_running (by exact hm)]; rfl
    · rw [State.takeCommit_of_pending (by exact hm) (by exact hp)]; rfl
    · rw [State.takeCommit_of_illegal (by exact hm) (by exact hp) (by exact hr)]; rfl
    · rw [State.takeCommit_of_legal (by exact hm) (by exact hp) (by exact hlegal)]; rfl
  case abort =>
    rw [exec_abortCommit_of_awaited h hc]
    refine ⟨fun hp => ?_, fun hp => ?_⟩
    · rw [State.takeAbort_of_pending (by exact hp)]; rfl
    · rw [State.takeAbort_of_none (by exact hp)]; rfl

end Sys2Proof.Machine

/-! # The bytes of a transfer

START, STOP, the pointer byte, the high and low bytes of a register write, and the bytes of a register read (R114, R118,
R136, R138, R161 to R163). -/

namespace Sys2Proof.Machine

/-! ## Addresses -/

theorem eq_of_toNat_eq_literal {a : BitVec 8} {k : Nat} (hk : k < 256) (h : a.toNat = k) : a = BitVec.ofNat 8 k := by
  refine BitVec.eq_of_toNat_eq ?_
  rw [h, BitVec.toNat_ofNat, Nat.mod_eq_of_lt hk]

/-- No read-only or absent register is the command register, the fault enable register or a staged one. -/
theorem not_writable_of_readOnly_or_absent {a : BitVec 8} (h : ReadOnlyAddress a ∨ AbsentAddress a) :
    ¬(a = 0x08 ∨ a = 0x0A ∨ StagedAddress a) := by
  rintro (rfl | rfl | hstaged)
  · revert h
    decide
  · revert h
    decide
  · simp only [ReadOnlyAddress, AbsentAddress, StagedAddress, exists_rank] at h hstaged
    norm_num at h hstaged
    omega

theorem not_command_of_staged {a : BitVec 8} (h : StagedAddress a) : a ≠ 0x08 ∧ a ≠ 0x0A := by
  simp only [StagedAddress, exists_rank] at h
  constructor <;> rintro rfl <;> revert h <;> decide

theorem stagedRegisterAt_of_staged {a : BitVec 8} (h : StagedAddress a) : ∃ r, stagedRegisterAt a = some r := by
  have hw : State.reset.writableAt a = true := by
    rw [State.writableAt_eq]
    exact decide_eq_true (.inr (.inr ⟨h, rfl⟩))
  have hcommand : (a == commandAddress) = false := beq_eq_false_iff_ne.2 (not_command_of_staged h).1
  have henable : (a == faultEnableAddress) = false := beq_eq_false_iff_ne.2 (not_command_of_staged h).2
  rw [State.writableAt, hcommand, henable, Bool.false_or, Bool.false_or, Bool.and_eq_true] at hw
  exact Option.isSome_iff_exists.1 hw.1

theorem stagedRegisterAt_control {a : BitVec 8} {n : Rank} (h : a.toNat = 0x30 + 4 * n.val) :
    stagedRegisterAt a = some (.rankControl n) := by
  obtain rfl := eq_of_toNat_eq_literal (by omega) h
  clear h
  revert n
  decide

theorem stagedRegisterAt_baseHigh {a : BitVec 8} {n : Rank} (h : a.toNat = 0x31 + 4 * n.val) :
    stagedRegisterAt a = some (.rankBaseHigh n) := by
  obtain rfl := eq_of_toNat_eq_literal (by omega) h
  clear h
  revert n
  decide

theorem stagedRegisterAt_baseLow {a : BitVec 8} {n : Rank} (h : a.toNat = 0x32 + 4 * n.val) :
    stagedRegisterAt a = some (.rankBaseLow n) := by
  obtain rfl := eq_of_toNat_eq_literal (by omega) h
  clear h
  revert n
  decide

/-! ## Conditions and the bytes of a write (R161, R162) -/

section Bytes

variable {s : State} {b : Byte}

theorem exec_startCondition_of_own {a : BitVec 7} (dir : Direction) (hr : s.pins.rst = false) (ha : a = s.mnt.address) :
    exec (.startCondition a dir) s = .next { s.sending [] [.ack] with mnt := { s.mnt with
      transfer := match dir with
        | .write => .writePointer
        | .read => .readHigh } } := by
  have hown : (!s.beginEvent.pins.rst && a == s.beginEvent.mnt.address) = true := by
    rw [State.beginEvent_pins, State.beginEvent_mnt, hr, ha, beq_self_eq_true]
    rfl
  refine congrArg Host.Outcome.next ((if_pos hown).trans ?_)
  cases dir <;> rfl

theorem exec_startCondition_of_other {a : BitVec 7} (dir : Direction) (h : s.pins.rst = true ∨ a ≠ s.mnt.address) :
    exec (.startCondition a dir) s = .next { s.sending [] [] with mnt := { s.mnt with transfer := .idle } } := by
  have hother : (!s.beginEvent.pins.rst && a == s.beginEvent.mnt.address) = false := by
    rcases h with hr | ha
    · rw [State.beginEvent_pins, hr]
      rfl
    · rw [State.beginEvent_mnt, beq_eq_false_iff_ne.2 ha, Bool.and_false]
  exact congrArg Host.Outcome.next (if_neg (ne_true_of_eq_false hother))

theorem exec_registerPointerWrite_of_pointer (h : s.mnt.transfer = .writePointer) :
    exec (.registerPointerWrite b) s = .next { s.sending [] [.ack] with
      mnt := { s.mnt with pointer := b, transfer := .writeHigh } } := by
  show execRegisterPointerWrite b s = _
  simp only [execRegisterPointerWrite, State.beginEvent_mnt, h]
  rfl

theorem exec_registerWriteHighByte_of_writable (h : s.mnt.transfer = .writeHigh) (hw : s.writableAt s.mnt.pointer = true) :
    exec (.registerWriteHighByte b) s = .next { s.sending [] [.ack] with
      mnt := { s.mnt with transfer := .writeLow b } } := by
  have hwb : s.beginEvent.writableAt s.mnt.pointer = true := hw
  show execRegisterWriteHighByte b s = _
  simp only [execRegisterWriteHighByte, State.beginEvent_mnt, h, hwb, if_true]
  rfl

theorem exec_highByte_refused (h : s.mnt.transfer = .writeHigh) (hw : s.writableAt s.mnt.pointer = false) :
    exec (.registerWriteHighByte b) s = .next s.byteRefused ∧ exec (.readOnlyRegisterWrite b) s = .next s.byteRefused := by
  have hwb : s.beginEvent.writableAt s.mnt.pointer = false := hw
  constructor
  · show execRegisterWriteHighByte b s = _
    simp only [execRegisterWriteHighByte, State.beginEvent_mnt, h, hwb, Bool.false_eq_true, if_false]
    rfl
  · show execReadOnlyRegisterWrite b s = _
    simp only [execReadOnlyRegisterWrite, State.beginEvent_mnt, h, hwb, Bool.false_eq_true, if_false]
    rfl

theorem State.lowByte_of_ignored (h : s.mnt.transfer = .writeIgnored) (here : BitVec 8 → Bool) (body : Byte → State → State) :
    s.lowByte here body = s.refuseByte := by
  rw [State.lowByte, h]

/-- After a NACK every further byte of the transfer is refused. -/
theorem exec_of_ignored (h : s.mnt.transfer = .writeIgnored) :
    exec (.registerPointerWrite b) s = .next s.byteRefused ∧ exec (.registerWriteHighByte b) s = .next s.byteRefused ∧
      exec (.readOnlyRegisterWrite b) s = .next s.byteRefused ∧ exec (.stagedRegisterWrite b) s = .next s.byteRefused ∧
      exec (.faultEnableWrite b) s = .next s.byteRefused := by
  refine ⟨?_, ?_, ?_, congrArg Host.Outcome.next (State.lowByte_of_ignored (s := s.beginEvent) h _ _),
    congrArg Host.Outcome.next (State.lowByte_of_ignored (s := s.beginEvent) h _ _)⟩
  · show execRegisterPointerWrite b s = _
    simp only [execRegisterPointerWrite, State.beginEvent_mnt, h]
    rfl
  · show execRegisterWriteHighByte b s = _
    simp only [execRegisterWriteHighByte, State.beginEvent_mnt, h]
    rfl
  · show execReadOnlyRegisterWrite b s = _
    simp only [execReadOnlyRegisterWrite, State.beginEvent_mnt, h]
    rfl

theorem exec_faultEnableWrite_of_low {hi : Byte} (h : s.mnt.transfer = .writeLow hi) (hp : s.mnt.pointer = 0x0A) :
    exec (.faultEnableWrite b) s = .next { s.registerWritten with flg := s.flg.setMask (b.setWidth 6) } :=
  congrArg Host.Outcome.next (s.beginEvent.lowByte_taken _ _ hi h (by rw [State.beginEvent_mnt, hp]; rfl))

end Bytes

/-- Settles O56: each condition and byte by the transfer state, and the high byte by what stands at the pointer. -/
theorem registerTransferBytes : Obligations.RegisterTransferBytes := by
  intro s b
  refine ⟨fun a dir hr ha => exec_startCondition_of_own dir hr ha, fun a dir h => exec_startCondition_of_other dir h, rfl,
    fun h => exec_registerPointerWrite_of_pointer h, fun h hp => ?taken, fun h hp => ?refused, fun h => exec_of_ignored h,
    fun hi h hp => exec_faultEnableWrite_of_low h hp⟩
  case taken =>
    refine exec_registerWriteHighByte_of_writable h ?_
    rw [State.writableAt_eq]
    exact decide_eq_true hp
  case refused =>
    refine exec_highByte_refused h ?_
    rw [State.writableAt_eq]
    refine decide_eq_false ?_
    rcases hp with hro | habsent | ⟨hstaged, hpending⟩
    · exact fun hw => not_writable_of_readOnly_or_absent (.inl hro) (hw.imp_right (.imp_right And.left))
    · exact fun hw => not_writable_of_readOnly_or_absent (.inr habsent) (hw.imp_right (.imp_right And.left))
    · obtain ⟨hcommand, henable⟩ := not_command_of_staged hstaged
      rintro (hw | hw | ⟨-, hw⟩)
      exacts [hcommand hw, henable hw, nomatch hpending.symm.trans hw]

/-! ## Writes of the staged registers (R138) -/

section Staged

variable {s : State} {hi lo : Byte} {r : StagedRegister}

theorem exec_stagedRegisterWrite (h : s.mnt.transfer = .writeLow hi) (hr : stagedRegisterAt s.mnt.pointer = some r) :
    exec (.stagedRegisterWrite lo) s = .next (s.beginEvent.writeStaged hi lo) :=
  congrArg Host.Outcome.next (s.beginEvent.lowByte_taken _ _ hi h (by rw [State.beginEvent_mnt, hr]; rfl))

theorem exec_stagedRegisterWrite_of_pending (h : s.mnt.transfer = .writeLow hi)
    (hr : stagedRegisterAt s.mnt.pointer = some r) (hp : s.cfg.pending = true) :
    exec (.stagedRegisterWrite lo) s = .next s.byteRefused := by
  rw [exec_stagedRegisterWrite h hr, State.writeStaged, State.beginEvent_mnt, hr]
  exact congrArg Host.Outcome.next (if_pos hp)

theorem exec_stagedRegisterWrite_of_taken (h : s.mnt.transfer = .writeLow hi)
    (hr : stagedRegisterAt s.mnt.pointer = some r) (hp : s.cfg.pending = false) :
    exec (.stagedRegisterWrite lo) s = .next { s.registerWritten with
      cfg := { s.cfg with staged := r.write (hi ++ lo) s.cfg.staged } } := by
  rw [exec_stagedRegisterWrite h hr, State.writeStaged, State.beginEvent_mnt, hr]
  exact congrArg Host.Outcome.next (if_neg (ne_true_of_eq_false hp))

end Staged

/-- Settles O57: a staged write is refused while a commit is pending, and otherwise replaces the fields of the register at
the pointer. -/
theorem stagedRegisterWrites : Obligations.StagedRegisterWrites := by
  intro s hi lo v h hv
  subst hv
  refine ⟨fun hp haddr => ?refused, fun hp => ⟨fun n => ?ranks, fun c hc => ?settings⟩⟩
  case refused =>
    have hstaged : StagedAddress s.mnt.pointer := by
      rcases haddr with ⟨n, hn⟩ | hn
      · exact .inl ⟨n, by omega, by omega⟩
      · exact .inr hn
    obtain ⟨r, hr⟩ := stagedRegisterAt_of_staged hstaged
    exact exec_stagedRegisterWrite_of_pending h hr hp
  case ranks =>
    refine ⟨_, _, _, fun ha => exec_stagedRegisterWrite_of_taken h (stagedRegisterAt_control ha) hp,
      fun ha => exec_stagedRegisterWrite_of_taken h (stagedRegisterAt_baseHigh ha) hp,
      fun ha => exec_stagedRegisterWrite_of_taken h (stagedRegisterAt_baseLow ha) hp, ?_, ?_, ?_,
      Vector.getElem_set_self _, Vector.getElem_set_self _,
      fun m hm => ⟨getElem_set_of_ne _ hm _, getElem_set_of_ne _ hm _, getElem_set_of_ne _ hm _⟩⟩
    all_goals rw [Fin.getElem_fin, Vector.getElem_set_self]
    exact rankSizeOfCode_lines _
  case settings =>
    have write : ∀ r : StagedRegister, stagedRegisterAt s.mnt.pointer = some r → c = r.write (hi ++ lo) s.cfg.staged →
        exec (.stagedRegisterWrite lo) s = .next { s.registerWritten with cfg := { s.cfg with staged := c } } := by
      rintro r hr rfl
      exact exec_stagedRegisterWrite_of_taken h hr hp
    rcases hc with ⟨ha, hc⟩ | ⟨ha, hc⟩ | ⟨ha, hc⟩ | ⟨ha, hc⟩ | ⟨ha, hc⟩ | ⟨ha, hc⟩ | ⟨ha, hc⟩
    · exact write .refresh (by rw [ha]; rfl) hc
    · exact write .marks (by rw [ha]; rfl) hc
    · exact write .ageLimit (by rw [ha]; rfl) hc
    · exact write .scrub (by rw [ha]; rfl) hc
    · exact write .scrubInterval (by rw [ha]; rfl) hc
    · exact write .correctedThreshold (by rw [ha]; rfl) hc
    · exact write .holdupTime (by rw [ha]; rfl) hc

/-! ## Fields of a register (R165) -/

theorem flagAt_eq_field (k : Nat) (b : Bool) : flagAt k b = field k (bitOf b) := by
  cases b
  · show (0 : BitVec 16) = BitVec.ofNat 16 (0 <<< k)
    rw [Nat.zero_shiftLeft]
    rfl
  · rfl

theorem bitOf_le_one (b : Bool) : bitOf b ≤ 1 := by cases b <;> decide

theorem toNat_field_zero (v : Nat) : (field 0 v).toNat = v % 65536 := by
  rw [field, BitVec.toNat_ofNat, Nat.shiftLeft_zero]

/-- A field above the bits of a value adds to it. -/
theorem toNat_or_field {x : BitVec 16} {k v : Nat} (hx : x.toNat < 2 ^ k) (hv : v * 2 ^ k < 65536) :
    (x ||| field k v).toNat = x.toNat + v * 2 ^ k := by
  rw [BitVec.toNat_or, field, BitVec.toNat_ofNat, Nat.shiftLeft_eq, Nat.mod_eq_of_lt hv, Nat.or_comm, ← Nat.shiftLeft_eq,
    ← Nat.shiftLeft_add_eq_or_of_lt hx, Nat.add_comm]

/-! ## The bytes of a read (R118, R119, R163) -/

section Read

variable {s : State}

theorem State.takeSnapshot_of_other (h : s.mnt.pointer ≠ 0x0C) : s.takeSnapshot = s := if_neg h

theorem State.takeSnapshot_of_head (h : s.mnt.pointer = 0x0C) :
    s.takeSnapshot = { s with mnt := { s.mnt with snapshot := s.flg.snapshot } } := if_pos h

theorem exec_headRecordRead_of_high (h : s.mnt.transfer = .readHigh) :
    exec .headRecordRead s = .next s.beginEvent.sendHigh := by
  show execHeadRecordRead s = _
  simp only [execHeadRecordRead, State.beginEvent_mnt, h]

theorem exec_headRecordRead_of_low {b : Byte} (h : s.mnt.transfer = .readLow b) :
    exec .headRecordRead s = .next { s.sending [] [.byte b] with
      mnt := { s.mnt with pointer := s.mnt.pointer + 1, transfer := .readHigh } } := by
  show execHeadRecordRead s = _
  simp only [execHeadRecordRead, State.beginEvent_mnt, h]
  rfl

theorem HeadSnapshot.register_zero_toNat (h : HeadSnapshot) :
    (h.register 0).toNat = h.number.toNat + 256 * h.kind.toNat + 32768 * bitOf h.present := by
  have hnumber := h.number.isLt
  have hkind := h.kind.isLt
  have hpresent := bitOf_le_one h.present
  show (flagAt 15 h.present ||| field 8 h.kind.toNat ||| field 0 h.number.toNat).toNat = _
  have hlow : (field 0 h.number.toNat).toNat = h.number.toNat := by
    rw [toNat_field_zero, Nat.mod_eq_of_lt (by omega)]
  have hmid : (field 0 h.number.toNat ||| field 8 h.kind.toNat).toNat = h.number.toNat + h.kind.toNat * 2 ^ 8 := by
    rw [toNat_or_field (by omega) (by omega), hlow]
  rw [flagAt_eq_field, BitVec.or_assoc, BitVec.or_comm (field 8 _), BitVec.or_comm, toNat_or_field (by omega) (by omega), hmid]
  omega

theorem FaultLog.snapshot_of_nil {f : FaultLog} (h : f.records = []) : f.snapshot = emptySnapshot := by
  rw [FaultLog.snapshot, h]

theorem FaultLog.snapshot_of_cons {f : FaultLog} {x : FaultRecord} {rest : List FaultRecord} (h : f.records = x :: rest) :
    f.snapshot = x.snapshot := by
  rw [FaultLog.snapshot, h]

end Read

/-- Settles O58: the high byte takes the value, and at the head record the snapshot; the low byte moves the pointer on. -/
theorem registerReadBytes : Obligations.RegisterReadBytes := by
  intro s
  refine ⟨fun h hp v hv => ?other, fun h hp => ?head, fun b h => exec_headRecordRead_of_low h⟩
  case other =>
    subst hv
    rw [exec_headRecordRead_of_high h, State.sendHigh, State.takeSnapshot_of_other (by exact hp)]
    rfl
  case head =>
    refine ⟨s.flg.snapshot, s.flg.snapshot.register 0, ?_, HeadSnapshot.register_zero_toNat _, fun hnil => ?_,
      fun x rest hcons => ?_⟩
    · rw [exec_headRecordRead_of_high h, State.sendHigh, State.takeSnapshot_of_head (by exact hp)]
      dsimp only [State.beginEvent_mnt]
      rw [hp]
      rfl
    · rw [FaultLog.snapshot_of_nil hnil]
      rfl
    · rw [FaultLog.snapshot_of_cons hcons]
      obtain ⟨number, event⟩ := x
      cases event
      case holdupDiscard k =>
        refine ⟨rfl, rfl, rfl, rfl, rfl, rfl, rfl, fun hk => ?_⟩
        show (BitVec.ofNat 16 k).toNat = k
        rw [BitVec.toNat_ofNat, Nat.mod_eq_of_lt (by omega)]
      all_goals exact ⟨rfl, rfl, rfl, rfl, rfl, rfl, rfl, rfl⟩

end Sys2Proof.Machine

/-! # What the registers show

The value of each register as the sum of its fields at their places (R163, R165, Table 11-8). -/

namespace Sys2Proof.Machine

/-! ## Sums of fields -/

theorem toNat_field_zero_of_lt {v : Nat} (h : v < 65536) : (field 0 v).toNat = v := by
  rw [toNat_field_zero, Nat.mod_eq_of_lt h]

theorem toNat_flagAt_zero (b : Bool) : (flagAt 0 b).toNat = bitOf b := by
  cases b <;> rfl

theorem toNat_or_flagAt {x : BitVec 16} {k : Nat} (hx : x.toNat < 2 ^ k) (hk : 2 ^ k < 65536) (b : Bool) :
    (x ||| flagAt k b).toNat = x.toNat + bitOf b * 2 ^ k := by
  have hb := bitOf_le_one b
  rw [flagAt_eq_field]
  exact toNat_or_field hx (Nat.lt_of_le_of_lt (Nat.mul_le_mul_right _ hb) (by rwa [Nat.one_mul]))

/-- Two fields, the lower one at bit 0. -/
theorem toNat_two_fields {a b k : Nat} (ha : a < 2 ^ k) (hk : 2 ^ k ≤ 65536) (hb : b * 2 ^ k < 65536) :
    (field 0 a ||| field k b).toNat = a + b * 2 ^ k := by
  have hlow := toNat_field_zero_of_lt (Nat.lt_of_lt_of_le ha hk)
  rw [toNat_or_field (by rw [hlow]; exact ha) hb, hlow]

/-- Three fields, the lowest one at bit 0. -/
theorem toNat_three_fields {a b c k m : Nat} (ha : a < 2 ^ k) (hk : 2 ^ k ≤ 65536) (hb : b * 2 ^ k < 65536)
    (hab : a + b * 2 ^ k < 2 ^ m) (hc : c * 2 ^ m < 65536) :
    (field 0 a ||| field k b ||| field m c).toNat = a + b * 2 ^ k + c * 2 ^ m := by
  have hlow := toNat_two_fields ha hk hb
  rw [toNat_or_field (by rw [hlow]; exact hab) hc, hlow]

/-! ## The codes -/

theorem Mode.code_le (m : Mode) : m.code ≤ 5 := by cases m <;> decide

theorem modeAtResetCode_le (m : Option Mode) : modeAtResetCode m ≤ 7 := by
  cases m with
  | none => decide
  | some m => exact m.code_le.trans (by decide)

theorem ResetCause.code_le (c : ResetCause) : c.code ≤ 2 := by cases c <;> decide

theorem CommitReason.code_le (r : CommitReason) : r.code ≤ 10 := by cases r <;> decide

theorem CommitOutcome.code_le (o : CommitOutcome) : o.code ≤ 5 := by cases o <;> simp [CommitOutcome.code]

theorem CommitOutcome.reasonCode_le (o : CommitOutcome) : o.reasonCode ≤ 10 := by
  cases o with
  | rejected r => exact r.code_le
  | none | accepted | applied | aborted | cancelled => exact Nat.zero_le _

theorem ResultCode.code_le (r : ResultCode) : r.code ≤ 7 := by cases r <;> simp [ResultCode.code]

theorem ResultCode.reasonCode_le (r : ResultCode) : r.reasonCode ≤ 10 := by
  cases r with
  | rejected r => exact r.code_le
  | none | done | empty | busy | accepted | notPending | unknown => exact Nat.zero_le _

theorem RankSize.code_le (z : RankSize) : z.code ≤ 3 := by cases z <;> decide

/-! ## The PENDING rows -/

theorem FenceRow.isPending_iff (row : FenceRow) : row.isPending = true ↔ row ≠ .free := by
  rw [Ne, ← FenceRow.isPending_false_iff, Bool.not_eq_false]

theorem State.pendingRows_eq_card (s : State) :
    s.pendingRows = (Finset.univ.filter fun src : Source => s.ft.rows[src] ≠ .free).card := by
  have hset : IsWordSet (wordSet fun i => s.ft.rows[i].isPending) fun src : Source => s.ft.rows[src] ≠ .free := by
    intro i
    rw [wordSet_getLsbD, FenceRow.isPending_iff]
  rw [← countWords_eq_card hset, countWords, State.pendingRows]
  simp only [wordSet_getLsbD]

theorem State.pendingRows_le (s : State) : s.pendingRows ≤ 4 := List.countP_le_length

/-! ## The status registers -/

section Status

variable (s : State)

theorem State.status_toNat : (s.readRegister 0x04).toNat = s.mdc.mode.code + 256 * bitOf s.pins.pwarn := by
  have hmode := s.mdc.mode.code_le
  have hlow : (field 0 s.mdc.mode.code).toNat = s.mdc.mode.code := toNat_field_zero_of_lt (by omega)
  show (field 0 s.mdc.mode.code ||| flagAt 8 s.pins.pwarn).toNat = _
  rw [toNat_or_flagAt (by rw [hlow]; omega) (by decide), hlow]
  omega

theorem State.occupancy_toNat (hpq : s.pq.length ≤ 16) (hrt : s.rt.length ≤ 8) :
    (s.readRegister 0x05).toNat = s.pq.length + 256 * s.rt.length +
      4096 * (Finset.univ.filter fun src : Source => s.ft.rows[src] ≠ .free).card := by
  have hrows := s.pendingRows_le
  show (field 0 s.pq.length ||| field 8 s.rt.length ||| field 12 s.pendingRows).toNat = _
  rw [toNat_three_fields (by omega) (by decide) (by omega) (by omega) (by omega), s.pendingRows_eq_card]
  omega

theorem State.commitStatus_toNat : (s.readRegister 0x06).toNat =
    bitOf s.cfg.pending + 16 * s.cfg.outcome.code + 256 * s.cfg.outcome.reasonCode := by
  have hpending := bitOf_le_one s.cfg.pending
  have hcode := s.cfg.outcome.code_le
  have hreason := s.cfg.outcome.reasonCode_le
  show (flagAt 0 s.cfg.pending ||| field 4 s.cfg.outcome.code ||| field 8 s.cfg.outcome.reasonCode).toNat = _
  rw [flagAt_eq_field, toNat_three_fields (by omega) (by decide) (by omega) (by omega) (by omega)]
  omega

theorem State.flushStatus_toNat (hrem : s.ft.flush.remaining ≤ 16) : (s.readRegister 0x07).toNat =
    bitOf s.ft.flush.active + 16 * s.ft.flush.remaining + 4096 * bitOf s.ft.flush.complete := by
  have hactive := bitOf_le_one s.ft.flush.active
  have hcomplete := bitOf_le_one s.ft.flush.complete
  show (flagAt 0 s.ft.flush.active ||| field 4 s.ft.flush.remaining ||| flagAt 12 s.ft.flush.complete).toNat = _
  rw [flagAt_eq_field, flagAt_eq_field, toNat_three_fields (by omega) (by decide) (by omega) (by omega) (by omega)]
  omega

theorem State.result_toNat : (s.readRegister 0x09).toNat =
    s.mnt.result.result.code + 256 * s.mnt.result.result.reasonCode + 4096 * s.mnt.result.command.toNat := by
  have hcode := s.mnt.result.result.code_le
  have hreason := s.mnt.result.result.reasonCode_le
  have hcommand := s.mnt.result.command.isLt
  show (field 0 s.mnt.result.result.code ||| field 8 s.mnt.result.result.reasonCode |||
    field 12 s.mnt.result.command.toNat).toNat = _
  rw [toNat_three_fields (by omega) (by decide) (by omega) (by omega) (by omega)]
  omega

theorem State.faultEnable_toNat : (s.readRegister 0x0A).toNat = s.flg.mask.toNat :=
  toNat_field_zero_of_lt (by have := s.flg.mask.isLt; omega)

theorem State.faultStatus_toNat (hlen : s.flg.records.length ≤ 8) :
    (s.readRegister 0x0B).toNat = s.flg.records.length + 256 * bitOf s.flg.overflow := by
  have hlow : (field 0 s.flg.records.length).toNat = s.flg.records.length := toNat_field_zero_of_lt (by omega)
  show (field 0 s.flg.records.length ||| flagAt 8 s.flg.overflow).toNat = _
  rw [toNat_or_flagAt (by rw [hlow]; omega) (by decide), hlow]
  omega

theorem State.headPlace_toNat : (s.readRegister 0x0D).toNat =
    s.mnt.snapshot.rank.toNat + 16 * s.mnt.snapshot.source.toNat + 256 * s.mnt.snapshot.words.toNat := by
  have hrank := s.mnt.snapshot.rank.isLt
  have hsource := s.mnt.snapshot.source.isLt
  have hwords := s.mnt.snapshot.words.isLt
  show (field 0 s.mnt.snapshot.rank.toNat ||| field 4 s.mnt.snapshot.source.toNat |||
    field 8 s.mnt.snapshot.words.toNat).toNat = _
  rw [toNat_three_fields (by omega) (by decide) (by omega) (by omega) (by omega)]
  omega

theorem State.headLine_toNat : (s.readRegister 0x0E).toNat = s.mnt.snapshot.line.toNat / 65536 ∧
    (s.readRegister 0x0F).toNat = s.mnt.snapshot.line.toNat % 65536 := by
  have hline := s.mnt.snapshot.line.isLt
  exact ⟨toNat_field_zero_of_lt (by omega), toNat_field_zero _⟩

theorem State.resetRecord_toNat (hdiscarded : s.mdc.record.discarded ≤ 16) : (s.readRegister 0x14).toNat =
    s.mdc.record.cause.code + 16 * modeAtResetCode s.mdc.record.modeAtReset + 256 * s.mdc.record.discarded +
      8192 * bitOf s.mdc.record.writeCut + 16384 * bitOf s.mdc.record.fillComplete := by
  have hcause := s.mdc.record.cause.code_le
  have hmode := modeAtResetCode_le s.mdc.record.modeAtReset
  have hcut := bitOf_le_one s.mdc.record.writeCut
  have hlow := toNat_three_fields (a := s.mdc.record.cause.code) (b := modeAtResetCode s.mdc.record.modeAtReset)
    (c := s.mdc.record.discarded) (k := 4) (m := 8) (by omega) (by decide) (by omega) (by omega) (by omega)
  have hmid := toNat_or_flagAt (x := field 0 s.mdc.record.cause.code |||
    field 4 (modeAtResetCode s.mdc.record.modeAtReset) ||| field 8 s.mdc.record.discarded) (k := 13) (by omega) (by decide)
    s.mdc.record.writeCut
  show (field 0 s.mdc.record.cause.code ||| field 4 (modeAtResetCode s.mdc.record.modeAtReset) |||
    field 8 s.mdc.record.discarded ||| flagAt 13 s.mdc.record.writeCut ||| flagAt 14 s.mdc.record.fillComplete).toNat = _
  rw [toNat_or_flagAt (by omega) (by decide), hmid, hlow]
  omega

/-! ## The ranks and the pointers -/

theorem State.debt_toNat (h : ∀ n : Rank, s.rfs[n].debt ≤ 8) (n : Rank) :
    (s.readRegister (0x18 + BitVec.ofNat 8 n.val)).toNat = s.rfs[n].debt := by
  have hreg : s.readRegister (0x18 + BitVec.ofNat 8 n.val) = field 0 s.rfs[n].debt := by
    revert n
    rw [forall_rank]
    exact ⟨rfl, rfl, rfl, rfl⟩
  have hn := h n
  rw [hreg]
  exact toNat_field_zero_of_lt (by omega)

theorem State.readRegister_count (n : Rank) : s.readRegister (0x1C + BitVec.ofNat 8 n.val) = s.chk[n] := by
  revert n
  rw [forall_rank]
  exact ⟨rfl, rfl, rfl, rfl⟩

end Status

theorem pointerRegister_toNat (r : Rank) (l : RankLine) :
    (pointerRegister r l false).toNat = l.toNat / 65536 + 4096 * r.val ∧
      (pointerRegister r l true).toNat = l.toNat % 65536 := by
  have hl := l.isLt
  have hr := r.isLt
  refine ⟨?_, toNat_field_zero _⟩
  show (field 12 r.val ||| field 0 (l.toNat / 65536)).toNat = _
  rw [BitVec.or_comm, toNat_two_fields (by omega) (by decide) (by omega)]
  omega

/-! ## The staged registers and their mirror -/

/-- The set that a group of registers shows: the staged set at its own addresses, the active one at 0x40 above. -/
def State.shownAt (s : State) (base : BitVec 8) (c : Settings) : Prop := base = 0 ∧ c = s.cfg.staged ∨ base = 0x40 ∧ c = s.cfg.active

section Shown

variable {s : State} {base : BitVec 8} {c : Settings}

theorem readRegister_of_shown_rank (h : s.shownAt base c) (n : Rank) :
    s.readRegister (base + 0x30 + BitVec.ofNat 8 (4 * n.val)) = (StagedRegister.rankControl n).value c ∧
      s.readRegister (base + 0x31 + BitVec.ofNat 8 (4 * n.val)) = (StagedRegister.rankBaseHigh n).value c ∧
      s.readRegister (base + 0x32 + BitVec.ofNat 8 (4 * n.val)) = (StagedRegister.rankBaseLow n).value c := by
  revert n
  rw [forall_rank]
  rcases h with ⟨rfl, rfl⟩ | ⟨rfl, rfl⟩ <;>
    exact ⟨⟨rfl, rfl, rfl⟩, ⟨rfl, rfl, rfl⟩, ⟨rfl, rfl, rfl⟩, ⟨rfl, rfl, rfl⟩⟩

theorem readRegister_of_shown (h : s.shownAt base c) :
    s.readRegister (base + 0x40) = StagedRegister.refresh.value c ∧
      s.readRegister (base + 0x41) = StagedRegister.marks.value c ∧
      s.readRegister (base + 0x42) = StagedRegister.ageLimit.value c ∧
      s.readRegister (base + 0x43) = StagedRegister.scrub.value c ∧
      s.readRegister (base + 0x44) = StagedRegister.scrubInterval.value c ∧
      s.readRegister (base + 0x45) = StagedRegister.correctedThreshold.value c ∧
      s.readRegister (base + 0x46) = StagedRegister.holdupTime.value c := by
  rcases h with ⟨rfl, rfl⟩ | ⟨rfl, rfl⟩ <;> exact ⟨rfl, rfl, rfl, rfl, rfl, rfl, rfl⟩

end Shown

section Values

variable (c : Settings) (n : Rank)

theorem rankControl_value_toNat :
    ((StagedRegister.rankControl n).value c).toNat = bitOf c.ranks[n].enable + 16 * c.ranks[n].size.code := by
  have henable := bitOf_le_one c.ranks[n].enable
  have hsize := c.ranks[n].size.code_le
  show (flagAt 0 c.ranks[n].enable ||| field 4 c.ranks[n].size.code).toNat = _
  rw [flagAt_eq_field, toNat_two_fields (by omega) (by decide) (by omega)]
  omega

theorem rankBaseHigh_value_toNat :
    ((StagedRegister.rankBaseHigh n).value c).toNat = c.ranks[n].base.toNat / 65536 := by
  have hbase := c.ranks[n].base.isLt
  show (field 0 (c.ranks[n].base.extractLsb' 16 12).toNat).toNat = _
  rw [BitVec.extractLsb'_toNat, Nat.shiftRight_eq_div_pow, toNat_field_zero_of_lt (by omega), Nat.mod_eq_of_lt (by omega)]

theorem rankBaseLow_value_toNat :
    ((StagedRegister.rankBaseLow n).value c).toNat = c.ranks[n].base.toNat % 65536 := by
  show (c.ranks[n].base.extractLsb' 0 16).toNat = _
  rw [BitVec.extractLsb'_toNat, Nat.shiftRight_zero]

theorem refresh_value_toNat :
    (StagedRegister.refresh.value c).toNat = c.refreshInterval.toNat + 256 * c.urgentLevel.toNat := by
  have hinterval := c.refreshInterval.isLt
  have hlevel := c.urgentLevel.isLt
  show (field 0 c.refreshInterval.toNat ||| field 8 c.urgentLevel.toNat).toNat = _
  rw [toNat_two_fields (by omega) (by decide) (by omega)]
  omega

theorem marks_value_toNat :
    (StagedRegister.marks.value c).toNat = c.drainThreshold.toNat + 256 * c.highMark.toNat := by
  have hthreshold := c.drainThreshold.isLt
  have hmark := c.highMark.isLt
  show (field 0 c.drainThreshold.toNat ||| field 8 c.highMark.toNat).toNat = _
  rw [toNat_two_fields (by omega) (by decide) (by omega)]
  omega

end Values

/-- Settles O59: the codes, the absent addresses, and each register as the sum of its fields. -/
theorem registersShowState : Obligations.RegistersShowState := by
  refine ⟨rfl, rfl, fun _ => rfl, rfl, rfl, rfl, rfl, fun r cs rs hcs hrs => ?codes,
    fun s a ha => s.readRegister_of_absent a ha, fun s hpq hrt hflush hlog hdiscarded hdebts => ?registers⟩
  case codes =>
    subst hcs hrs
    exact ⟨rfl, rfl, rfl, rfl⟩
  case registers =>
    obtain ⟨hlineHigh, hlineLow⟩ := s.headLine_toNat
    obtain ⟨hscrubHigh, hscrubLow⟩ := pointerRegister_toNat s.scr.rank s.scr.line
    obtain ⟨hfillHigh, hfillLow⟩ := pointerRegister_toNat s.mdc.fillRank s.mdc.fillLine
    refine ⟨rfl, rfl, rfl, rfl, s.status_toNat, s.occupancy_toNat hpq hrt, s.commitStatus_toNat, s.flushStatus_toNat hflush,
      s.result_toNat, s.faultEnable_toNat, s.faultStatus_toNat hlog, s.headPlace_toNat, hlineHigh, hlineLow, rfl,
      s.resetRecord_toNat hdiscarded, fun n => ⟨s.debt_toNat hdebts n, s.readRegister_count n⟩, hscrubHigh, hscrubLow, rfl,
      hfillHigh, hfillLow, fun c base h => ?_⟩
    obtain ⟨hrefresh, hmarks, hage, hscrub, hinterval, hthreshold, hholdup⟩ := readRegister_of_shown h
    refine ⟨fun n => ?_, ?_, ?_, ?_, ?_, hinterval, hthreshold, ?_⟩
    · obtain ⟨hcontrol, hhigh, hlow⟩ := readRegister_of_shown_rank h n
      rw [hcontrol, hhigh, hlow]
      exact ⟨rankControl_value_toNat c n, rankBaseHigh_value_toNat c n, rankBaseLow_value_toNat c n⟩
    · rw [hrefresh]
      exact refresh_value_toNat c
    · rw [hmarks]
      exact marks_value_toNat c
    · rw [hage]
      exact toNat_field_zero_of_lt (by have := c.ageLimit.isLt; omega)
    · rw [hscrub]
      exact toNat_flagAt_zero _
    · rw [hholdup]
      exact toNat_field_zero_of_lt (by have := c.holdupTime.isLt; omega)

end Sys2Proof.Machine

/-! # What the hold-up expiry counts

The fold of discard reports over the QUEUED entries: what it makes of each fence row and of the flush, and which FDONEs
leave, in which order (R48, R49, R51, R55, R127). -/

namespace Sys2Proof.Machine

/-! ## The rows -/

/-- A fence row after `k` of its entries have been discarded. -/
def FenceRow.afterDiscards (row : FenceRow) (k : Nat) : FenceRow :=
  match row with
  | .free => .free
  | .pending f =>
    if k = 0 then .pending f
    else if k = f.remaining then .free
    else .pending { f with remaining := f.remaining - k, discarded := true }

/-- A fence row counts the `k` entries, and more if it is PENDING on others. -/
def FenceRow.Covers (row : FenceRow) (k : Nat) : Prop :=
  match row with
  | .free => k = 0
  | .pending f => 1 ≤ f.remaining ∧ k ≤ f.remaining

/-- The flush after `k` of its entries have been discarded. -/
def Flush.afterDiscards (f : Flush) (k : Nat) : Flush :=
  if k = 0 then f
  else if k = f.remaining then { active := false, remaining := 0, complete := true }
  else { f with remaining := f.remaining - k }

/-- The flush counts the `k` entries, and is active while it counts any. -/
def Flush.Covers (f : Flush) (k : Nat) : Prop := k ≤ f.remaining ∧ (1 ≤ f.remaining → f.active = true)

theorem Flush.counted_discard {f : Flush} {k : Nat} (h : f.Covers (k + 1)) :
    f.counted.Covers k ∧ f.counted.afterDiscards k = f.afterDiscards (k + 1) := by
  obtain ⟨hk, hactive⟩ := h
  have ha := hactive (by omega)
  unfold Flush.afterDiscards
  rw [if_neg (Nat.succ_ne_zero k)]
  by_cases hlast : f.remaining = 1
  · obtain rfl : k = 0 := by omega
    rw [Flush.counted_of_last ha hlast, if_pos rfl, if_pos hlast.symm]
    exact ⟨⟨Nat.le_refl 0, nofun⟩, rfl⟩
  · rw [Flush.counted_of_more ha (by omega)]
    refine ⟨⟨by show k ≤ f.remaining - 1; omega, fun _ => ha⟩, ?_⟩
    show (if k = 0 then _ else if k = f.remaining - 1 then _ else _) = _
    by_cases hzero : k = 0
    · subst hzero
      rw [if_pos rfl, if_neg (Ne.symm hlast)]
    · rw [if_neg hzero]
      by_cases hall : k + 1 = f.remaining
      · rw [if_pos hall, if_pos (by omega)]
      · rw [if_neg hall, if_neg (by omega), Nat.sub_sub, Nat.add_comm 1 k]

/-- The FDONE of a fence of which some entries were discarded (R51, R160). -/
def discardDone (src : Source) (f : PendingFence) : Response :=
  { kind := 2, source := src, tag := f.tag, answer := .fdone .discarded }

/-- A row that counts exactly the `k` entries is answered by `x` as they are discarded. -/
def FenceRow.Completes (row : FenceRow) (src : Source) (k : Nat) (x : Response) : Prop :=
  ∃ f : PendingFence, row = .pending f ∧ k = f.remaining ∧ x = discardDone src f

namespace FenceRow

variable {row : FenceRow} {k : Nat} {e : Entry}

@[simp] theorem afterDiscards_zero (row : FenceRow) : row.afterDiscards 0 = row := by
  cases row <;> rfl

/-- The discard of one entry leaves the others counted, and then the row is as all of them leave it. -/
theorem counted_discard (h : row.Covers (k + 1)) (e : Entry) :
    (row.counted e.discardReport).Covers k ∧
      (row.counted e.discardReport).afterDiscards k = row.afterDiscards (k + 1) := by
  cases row with
  | free => cases h
  | pending f =>
    obtain ⟨hone, hk⟩ := h
    have hafter : (pending f).afterDiscards (k + 1) =
        if k + 1 = f.remaining then .free else .pending { f with remaining := f.remaining - (k + 1), discarded := true } := rfl
    rw [hafter]
    by_cases hlast : f.remaining = 1
    · obtain rfl : k = 0 := by omega
      rw [(counted_of_last (x := e.discardReport) hlast).1, if_pos hlast.symm]
      exact ⟨rfl, rfl⟩
    · have hcounted : f.counted e.discardReport = { f with remaining := f.remaining - 1, discarded := true } := by
        show ({ f with remaining := f.remaining - 1, faulted := f.faulted || false, discarded := f.discarded || true } :
          PendingFence) = _
        rw [Bool.or_false, Bool.or_true]
      rw [(counted_of_more (x := e.discardReport) (by omega)).1, hcounted]
      refine ⟨⟨by show 1 ≤ f.remaining - 1; omega, by show k ≤ f.remaining - 1; omega⟩, ?_⟩
      show (if k = 0 then _ else if k = f.remaining - 1 then _ else _) = _
      by_cases hzero : k = 0
      · subst hzero
        rw [if_pos rfl, if_neg (Ne.symm hlast)]
      · rw [if_neg hzero]
        by_cases hall : k + 1 = f.remaining
        · rw [if_pos hall, if_pos (by omega)]
        · rw [if_neg hall, if_neg (by omega), Nat.sub_sub, Nat.add_comm 1 k]

/-- A row either stays PENDING on the other entries, with the same tag, or the discarded entry was its last. -/
theorem answers_of_discard (h : row.Covers (k + 1)) :
    (row.done e.discardReport = [] ∧
      ∀ x, row.Completes e.source (k + 1) x ↔ (row.counted e.discardReport).Completes e.source k x) ∨
    ∃ f : PendingFence, row.done e.discardReport = [discardDone e.source f] ∧ k = 0 ∧
      row.counted e.discardReport = .free ∧ ∀ x, row.Completes e.source (k + 1) x ↔ x = discardDone e.source f := by
  cases row with
  | free => cases h
  | pending f =>
    obtain ⟨hone, hk⟩ := h
    by_cases hlast : f.remaining = 1
    · obtain rfl : k = 0 := by omega
      obtain ⟨hfree, hdone⟩ := counted_of_last (x := e.discardReport) hlast
      have hstatus : (f.counted e.discardReport).status = .discarded := by
        show (if (f.discarded || true) = true then FenceStatus.discarded else _) = _
        rw [Bool.or_true, if_pos rfl]
      rw [hstatus] at hdone
      refine .inr ⟨f, hdone, rfl, hfree, fun x => ⟨?_, fun hx => ⟨f, rfl, hlast.symm, hx⟩⟩⟩
      rintro ⟨g, hg, -, rfl⟩
      cases hg
      rfl
    · obtain ⟨hcounted, hdone⟩ := counted_of_more (x := e.discardReport) (f := f) (by omega)
      refine .inl ⟨hdone, fun x => ?_⟩
      rw [hcounted]
      constructor
      · rintro ⟨g, hg, hall, hx⟩
        cases hg
        exact ⟨_, rfl, by show k = f.remaining - 1; omega, hx⟩
      · rintro ⟨g, hg, hall, hx⟩
        cases hg
        have hrest : k = f.remaining - 1 := hall
        exact ⟨f, rfl, by omega, hx⟩

end FenceRow

/-- Each row counts its source's fenced entries of a list. -/
def State.Covers (s : State) (es : List Entry) : Prop := ∀ src : Source, s.ft.rows[src].Covers (fencedIn es src)

/-- The state after the discards of a list of entries have been counted (R19). -/
def State.discards (s : State) (es : List Entry) : State := es.foldl (fun t e => t.report e.discardReport) s

section Discards

variable {s : State} {e : Entry} {es : List Entry}

theorem fencedIn_cons_self (hf : e.fenced = true) (es : List Entry) :
    fencedIn (e :: es) e.source = fencedIn es e.source + 1 := by
  rw [fencedIn_cons, if_pos ⟨rfl, hf⟩]

theorem fencedIn_cons_other {src : Source} (h : src ≠ e.source ∨ e.fenced = false) (es : List Entry) :
    fencedIn (e :: es) src = fencedIn es src := by
  rw [fencedIn_cons, if_neg, Nat.add_zero]
  rintro ⟨hsrc, hf⟩
  rcases h with h | h
  exacts [h hsrc.symm, nomatch hf.symm.trans h]

/-- A row after the report of one discard, by whether the entry is one that it counts. -/
theorem State.row_of_discard (h : s.Covers (e :: es)) (src : Source) :
    (s.report e.discardReport).ft.rows[src].Covers (fencedIn es src) ∧
      (s.report e.discardReport).ft.rows[src].afterDiscards (fencedIn es src) =
        s.ft.rows[src].afterDiscards (fencedIn (e :: es) src) := by
  have hsrc := h src
  by_cases hcase : src = e.source ∧ e.fenced = true
  · obtain ⟨rfl, hf⟩ := hcase
    have hrow : (s.report e.discardReport).ft.rows[e.source] = s.ft.rows[e.source].counted e.discardReport :=
      State.report_row_self (x := e.discardReport) hf
    rw [fencedIn_cons_self hf] at hsrc ⊢
    rw [hrow]
    exact FenceRow.counted_discard hsrc e
  · have hother : src ≠ e.source ∨ e.fenced = false := by
      rw [← Bool.not_eq_true]
      exact not_and_or.1 hcase
    rw [fencedIn_cons_other hother] at hsrc ⊢
    rw [State.report_row_other (x := e.discardReport) hother]
    exact ⟨hsrc, rfl⟩

theorem State.Covers.report (h : s.Covers (e :: es)) : (s.report e.discardReport).Covers es :=
  fun src => (State.row_of_discard h src).1

theorem State.Covers.discards_row (h : s.Covers es) (src : Source) :
    (s.discards es).ft.rows[src] = s.ft.rows[src].afterDiscards (fencedIn es src) := by
  induction es generalizing s with
  | nil => exact (FenceRow.afterDiscards_zero _).symm
  | cons e es ih => exact (ih h.report).trans (State.row_of_discard h src).2

/-! ## The flush -/

theorem State.flush_of_discard (h : s.ft.flush.Covers (flushedIn (e :: es))) :
    (s.report e.discardReport).ft.flush.Covers (flushedIn es) ∧
      (s.report e.discardReport).ft.flush.afterDiscards (flushedIn es) =
        s.ft.flush.afterDiscards (flushedIn (e :: es)) := by
  rw [flushedIn_cons] at h ⊢
  by_cases hf : e.flushed = true
  · rw [if_pos hf] at h ⊢
    rw [State.report_flush_of_flushed (x := e.discardReport) hf]
    exact Flush.counted_discard h
  · rw [if_neg hf, Nat.add_zero] at h ⊢
    rw [State.report_flush_of_unflushed (x := e.discardReport) (Bool.eq_false_of_not_eq_true hf)]
    exact ⟨h, rfl⟩

theorem State.discards_flush (h : s.ft.flush.Covers (flushedIn es)) :
    (s.discards es).ft.flush = s.ft.flush.afterDiscards (flushedIn es) := by
  induction es generalizing s with
  | nil => rfl
  | cons e es ih => exact (ih (State.flush_of_discard h).1).trans (State.flush_of_discard h).2

/-! ## The FDONEs -/

/-- The FDONEs of a fold of discards: `x` is answered if every entry that its row counts is discarded. -/
def State.Answered (s : State) (es : List Entry) (x : Response) : Prop :=
  ∃ src : Source, s.ft.rows[src].Completes src (fencedIn es src) x

/-- The row of `x` reaches 0 before the row of `y`: an entry of `y` has no entry of `x` behind it. -/
def Before (es : List Entry) (x y : Response) : Prop :=
  ∃ (older younger : List Entry) (e : Entry), es = older ++ e :: younger ∧ e.source = y.source ∧ e.fenced = true ∧
    ∀ z ∈ younger, ¬(z.source = x.source ∧ z.fenced = true)

theorem Before.cons {x y : Response} (h : Before es x y) (e : Entry) : Before (e :: es) x y := by
  obtain ⟨older, younger, last, hes, hlast⟩ := h
  exact ⟨e :: older, younger, last, congrArg (e :: ·) hes, hlast⟩

/-- A source with no fenced entry in a list is done before any source with one. -/
theorem before_of_absent {x y : Response} (hx : fencedIn es x.source = 0) (hy : 1 ≤ fencedIn es y.source) :
    Before es x y := by
  obtain ⟨last, hmem, hlast⟩ := List.countP_pos_iff.1 hy
  obtain ⟨older, younger, hes⟩ := List.append_of_mem hmem
  rw [Bool.and_eq_true, beq_iff_eq] at hlast
  refine ⟨older, younger, last, hes, hlast.1, hlast.2, fun z hz hzx => ?_⟩
  have hzmem : z ∈ es := hes ▸ List.mem_append_right older (List.mem_cons_of_mem last hz)
  refine List.countP_eq_zero.1 hx z hzmem ?_
  rw [Bool.and_eq_true, beq_iff_eq]
  exact hzx

theorem State.Answered.fencedIn_pos {x : Response} (hcovers : s.Covers es) (h : s.Answered es x) :
    1 ≤ fencedIn es x.source := by
  obtain ⟨src, f, hrow, hk, rfl⟩ := h
  have hsrc := hcovers src
  rw [hrow] at hsrc
  exact hk ▸ hsrc.1

/-- The first discard either answers nothing and leaves the same rows to be answered, or answers its own row alone. -/
theorem State.answers_of_discard (h : s.Covers (e :: es)) :
    ((s.report e.discardReport).rsp = s.rsp ∧
      ∀ x, s.Answered (e :: es) x ↔ (s.report e.discardReport).Answered es x) ∨
    ∃ f : PendingFence, (s.report e.discardReport).rsp = s.rsp ++ [discardDone e.source f] ∧
      fencedIn es e.source = 0 ∧
      ∀ x, s.Answered (e :: es) x ↔ x = discardDone e.source f ∨ (s.report e.discardReport).Answered es x := by
  by_cases hf : e.fenced = true
  · have hother : ∀ src, src ≠ e.source → ∀ x, s.ft.rows[src].Completes src (fencedIn (e :: es) src) x ↔
        (s.report e.discardReport).ft.rows[src].Completes src (fencedIn es src) x := by
      intro src hsrc x
      rw [fencedIn_cons_other (.inl hsrc), State.report_row_other (x := e.discardReport) (.inl hsrc)]
    have hself := State.report_row_self (s := s) (x := e.discardReport) hf
    have hrsp := State.report_rsp_of_fenced (s := s) (x := e.discardReport) hf
    have hrow := h e.source
    rw [fencedIn_cons_self hf] at hrow
    rcases FenceRow.answers_of_discard hrow with ⟨hnone, hsame⟩ | ⟨f, hone, habsent, hfree, hanswered⟩
    · refine .inl ⟨hrsp.trans (by rw [show s.ft.rows[e.discardReport.source].done e.discardReport = [] from hnone,
        List.append_nil]), fun x => exists_congr fun src => ?_⟩
      by_cases hsrc : src = e.source
      · subst hsrc
        rw [fencedIn_cons_self hf, hsame]
        exact Iff.of_eq (congrArg (FenceRow.Completes · e.source (fencedIn es e.source) x) hself.symm)
      · exact hother src hsrc x
    · refine .inr ⟨f, hrsp.trans (congrArg (s.rsp ++ ·) hone), habsent, fun x => ⟨?_, ?_⟩⟩
      · rintro ⟨src, hx⟩
        by_cases hsrc : src = e.source
        · subst hsrc
          rw [fencedIn_cons_self hf] at hx
          exact .inl ((hanswered x).1 hx)
        · exact .inr ⟨src, (hother src hsrc x).1 hx⟩
      · rintro (hx | ⟨src, hx⟩)
        · refine ⟨e.source, ?_⟩
          rw [fencedIn_cons_self hf]
          exact (hanswered x).2 hx
        · by_cases hsrc : src = e.source
          · subst hsrc
            obtain ⟨g, hg, -⟩ := hx
            exact nomatch (hself.trans hfree).symm.trans hg
          · exact ⟨src, (hother src hsrc x).2 hx⟩
  · have hno : e.fenced = false := Bool.eq_false_of_not_eq_true hf
    refine .inl ⟨State.report_rsp_of_unfenced hno, fun x => exists_congr fun src => ?_⟩
    rw [fencedIn_cons_other (.inr hno), State.report_row_other (x := e.discardReport) (.inr hno)]

/-- The FDONEs of the discards: one for each row that reaches 0, in the order in which they reach it. -/
theorem State.Covers.discards_rsp (h : s.Covers es) :
    ∃ done : List Response, (s.discards es).rsp = s.rsp ++ done ∧ (∀ x, x ∈ done ↔ s.Answered es x) ∧ done.Nodup ∧
      done.Pairwise (Before es) := by
  induction es generalizing s with
  | nil =>
    refine ⟨[], (List.append_nil _).symm, fun x => ⟨nofun, ?_⟩, .nil, .nil⟩
    intro hx
    exact absurd (hx.fencedIn_pos h) (Nat.not_succ_le_zero 0)
  | cons e es ih =>
    obtain ⟨done, hrsp, hmem, hnodup, hordered⟩ := ih h.report
    have hordered' : done.Pairwise (Before (e :: es)) := hordered.imp fun hxy => hxy.cons e
    rcases State.answers_of_discard h with ⟨hnone, hsame⟩ | ⟨f, hone, habsent, hanswered⟩
    · refine ⟨done, hrsp.trans (by rw [hnone]), fun x => (hmem x).trans (hsame x).symm, hnodup, hordered'⟩
    · have hlater : ∀ y ∈ done, 1 ≤ fencedIn es y.source := fun y hy => ((hmem y).1 hy).fencedIn_pos h.report
      refine ⟨discardDone e.source f :: done, ?_, fun x => ?_, List.nodup_cons.2 ⟨fun hin => ?_, hnodup⟩,
        List.pairwise_cons.2 ⟨fun y hy => (before_of_absent habsent (hlater y hy)).cons e, hordered'⟩⟩
      · exact hrsp.trans (by rw [hone, List.append_assoc]; rfl)
      · rw [List.mem_cons, hmem, hanswered]
      · have hagain : 1 ≤ fencedIn es e.source := hlater _ hin
        omega

end Discards

/-! ## The QUEUED entries -/

/-- The QUEUED entries, which the hold-up expiry discards (R127). -/
def State.queuedEntries (s : State) : List Entry := s.pq.filter fun e => !e.isWriting

/-- The state with the WRITING head alone in the queue, in which the discards are reported. -/
def State.withoutQueued (s : State) : State := { s with pq := s.pq.filter Entry.isWriting }

theorem State.discardQueued_eq (s : State) : s.discardQueued = s.withoutQueued.discards s.queuedEntries := rfl

section Queued

variable {s : State}

theorem State.fencedIn_queuedEntries (s : State) (src : Source) : fencedIn s.queuedEntries src = s.fencedQueued src := by
  simp only [fencedIn, State.queuedEntries, List.countP_filter, isWriting_eq_false_iff, State.fencedQueued]

theorem State.flushedIn_queuedEntries (s : State) : flushedIn s.queuedEntries = s.flushedQueued := by
  simp only [flushedIn, State.queuedEntries, List.countP_filter, isWriting_eq_false_iff, State.flushedQueued]

theorem State.queuedEntries_sublist (s : State) : s.queuedEntries.Sublist s.pq := List.filter_sublist

theorem FenceSound.covers_queued (hs : FenceSound s) : s.Covers s.queuedEntries := by
  intro src
  have hrow := hs.1 src
  have hle : fencedIn s.queuedEntries src ≤ s.fencedOf src := s.queuedEntries_sublist.countP_le
  unfold FenceRow.Covers
  split <;> rename_i hsrc <;> rw [hsrc] at hrow
  · have hzero : s.fencedOf src = 0 := hrow
    omega
  · rename_i f
    obtain ⟨hrem, hone⟩ : f.remaining = s.fencedOf src ∧ 1 ≤ s.fencedOf src := hrow
    omega

theorem FenceSound.flush_covers_queued (hs : FenceSound s) : s.ft.flush.Covers (flushedIn s.queuedEntries) := by
  obtain ⟨-, hrem, hactive⟩ := hs
  refine ⟨?_, fun hsome => ?_⟩
  · rw [hrem]
    exact s.queuedEntries_sublist.countP_le
  · rw [hactive]
    exact decide_eq_true (hrem ▸ hsome)

/-- The order of the FDONEs, told of the posted queue itself. -/
theorem Before.in_queue {x y : Response} (h : Before s.queuedEntries x y) :
    ∃ (older younger : List Entry) (e : Entry), s.pq = older ++ e :: younger ∧ e.source = y.source ∧ e.fenced = true ∧
      e.state = .queued ∧ ∀ z ∈ younger, ¬(z.source = x.source ∧ z.fenced = true ∧ z.state = .queued) := by
  obtain ⟨before, after, e, hsplit, hsrc, hf, hlast⟩ := h
  obtain ⟨front, back, hpq, -, hback⟩ := List.filter_eq_append_iff.1 hsplit
  obtain ⟨skipped, younger, rfl, -, he, rfl⟩ := List.filter_eq_cons_iff.1 hback
  rw [isWriting_eq_false_iff, beq_iff_eq] at he
  refine ⟨front ++ skipped, younger, e, by rw [hpq, List.append_assoc], hsrc, hf, he, fun z hz ⟨hzsrc, hzf, hzq⟩ => ?_⟩
  have hkept : (!z.isWriting) = true := by
    rw [isWriting_eq_false_iff]
    exact beq_iff_eq.2 hzq
  exact hlast z (List.mem_filter.2 ⟨hz, hkept⟩) ⟨hzsrc, hzf⟩

end Queued

/-- Settles O49: the expiry is the fold of the discard reports over the QUEUED entries, which the rows and the flush
cover. -/
theorem holdupExpiryCountsDiscards : Obligations.HoldupExpiryCountsDiscards := by
  intro s d hs htimer hdue
  have hcovers : s.beginEvent.withoutQueued.Covers s.queuedEntries := hs.covers_queued
  obtain ⟨done, hrsp, hmem, hnodup, hordered⟩ := hcovers.discards_rsp
  have hft : s.beginEvent.expireHoldup.ft = (s.beginEvent.withoutQueued.discards s.queuedEntries).ft := by
    rw [State.expireHoldup_frame, State.discardQueued_eq]
    rfl
  have hrow : ∀ src : Source,
      s.beginEvent.expireHoldup.ft.rows[src] = s.ft.rows[src].afterDiscards (s.fencedQueued src) := by
    intro src
    rw [hft, hcovers.discards_row src, s.fencedIn_queuedEntries]
    rfl
  have hflush : s.beginEvent.expireHoldup.ft.flush = s.ft.flush.afterDiscards s.flushedQueued := by
    rw [hft, State.discards_flush (s := s.beginEvent.withoutQueued) hs.flush_covers_queued, s.flushedIn_queuedEntries]
    rfl
  refine ⟨s.beginEvent.expireHoldup, done, exec_holdupExpiry_of_due htimer hdue, ?_, fun src hnone => ?_,
    fun src f hpending hsome => ?_, fun x => (hmem x).trans (exists_congr fun src => ?_), hnodup,
    hordered.imp Before.in_queue, fun hnone => ?_, fun hsome => ?_⟩
  · rw [State.expireHoldup_rsp]
    exact congrArg (· ++ s.refusals) hrsp
  · rw [hrow, hnone, FenceRow.afterDiscards_zero]
  · rw [hrow, hpending]
    exact if_neg (Nat.ne_of_gt hsome)
  · rw [s.fencedIn_queuedEntries]
    rfl
  · rw [hflush, hnone]
    rfl
  · rw [hflush]
    exact if_neg (Nat.ne_of_gt hsome)

end Sys2Proof.Machine
